-- ==== Sys2Proof/Word.lean ====
section
/-! DEFINITION. Word types: the widths in which the host link and the tag line carry numbers, and the plain names
(bay, channel kind) that operands of commands are made of. -/

namespace Sys2Proof

/-- A byte of the host link or the tag line (R60, R168). -/
abbrev Byte := BitVec 8

/-- A two-byte number of a message (R175). -/
abbrev Half := BitVec 16

/-- A four-byte number of a message (R175). -/
abbrev Word := BitVec 32

/-- A trailer number: 32 bits on the tag (R60) and in messages (R175); 0 names no trailer. -/
abbrev TrailerNo := BitVec 32

/-- A round number, wrapping from 65,535 to 0 (R26). -/
abbrev Round := BitVec 16

/-- A bay of the row, 0 to 15. -/
abbrev Bay := Fin 16

/-- A record slot of the trailer table (R1); the host never sees one. -/
abbrev SlotIx := Fin 32

/-- The kind of a channel or of a curve (R67, R87). -/
inductive ChannelKind where
  | fuel
  | probe
deriving DecidableEq, Repr

/-- Every bay, in ascending order. -/
def allBays : List Bay := [0, 1, 2, 3, 4, 5, 6, 7, 8, 9, 10, 11, 12, 13, 14, 15]

end Sys2Proof
end

