-- ==== Sys2Proof/Config.lean ====
section
/-! DEFINITION. What the part fixes: capacities, ranges, defaults and constants of its arithmetic, each with its rule.
The spec leaves no value open for an implementation to decide, so there is no uninterpreted constant here. -/

namespace Sys2Proof.Config

/-- R35: microseconds of the line sample tick's period. -/
def tickPeriod : Nat := 10000
/-- R56: the identify queue's capacity is one place a bay. -/
def identifyCapacity : Nat := 16
/-- R78: places of the spot list. -/
def spotCapacity : Nat := 8
/-- R157: places of the delivery queue. -/
def deliveryCapacity : Nat := 24
/-- R169: the largest LENGTH of a frame. -/
def maxPayload : Nat := 250
/-- R168: the SYNC byte. -/
def sync : Byte := 0x5A
/-- R171: a `CURVE_WRITE` payload is `4 + 6n` bytes, so a frame carries at most 41 points. -/
def maxFramePoints : Nat := 41

/-- R37: equal samples before a socket sense level is accepted. -/
def senseSamples : Nat := 5
/-- R144: equal samples before a door, run or over-current level is accepted. -/
def lineSamples : Nat := 3

/-- R43, R44: the largest POWER_GOOD_MS. -/
def powerGoodMax : Nat := 700
/-- R63: microseconds from the start of one attempt to the start of the next. -/
def attemptSpacing : Nat := 50000
/-- R58: microseconds of the wake pulse. -/
def wakePulse : Nat := 500
/-- R58, Table 22: microseconds from the start of an attempt to the opening of the presence window. -/
def presenceOpen : Nat := 600
/-- R58: microseconds from the start of an attempt to the close of the presence window. -/
def presenceClose : Nat := 900
/-- R63: attempts on one head bay. -/
def attemptMax : Nat := 3
/-- R59: microseconds of a bit slot. -/
def slotLength : Nat := 250
/-- R59: microseconds the part drives the line low at the start of a bit slot. -/
def slotDrive : Nat := 20
/-- R59: microseconds into a bit slot at which the part samples the line. -/
def slotSample : Nat := 60
/-- R59: bit slots of an attempt. -/
def slotCount : Nat := 40

/-- R69: the cycle counter is loaded with 1,048,576 less 2048. -/
def referenceLoad : Nat := 1046528
/-- R69, R70: the counter value at which a stage ends in an error. -/
def counterLimit : Nat := 1048575
/-- R68, R69: timebase ticks in a microsecond at 4,000,000 Hz. -/
def ticksPerMicrosecond : Nat := 4
/-- R69: the counter value past the largest, at which the cycle counter wraps. -/
def counterSpan : Nat := 1048576
/-- R68: timebase ticks of SELECT. -/
def selectTicks : Nat := 4000
/-- R68: thousandths of a hertz of the timebase clock: an oscillator of this frequency makes one cycle a tick. -/
def timebaseRate : Nat := 4000000000
/-- R67: thousandths of a hertz of the oscillator's nominal frequency on its own reference resistor. -/
def nominalRate : Nat := 200000000
/-- R67: the reference resistor of the FUEL channels, in thousandths of an ohm. -/
def fuelReference : Nat := 2000000
/-- R67: the reference resistor of the PROBE channels, in thousandths of an ohm. -/
def probeReference : Nat := 10000000
/-- R67: the internal resistor in series with a tank sender, in thousandths of an ohm. -/
def fuelSeriesMilliohms : Nat := 1000000
/-- Thousandths of an ohm of a tank sender at which a FUEL channel's network equals its reference resistor (log 17). -/
def nominalSender : Nat := 1000000
/-- R70: a sensor count below this is OPEN. -/
def openBelow : Nat := 16
/-- R71: the reference resistance in tenths of an ohm, multiplied by 2048. -/
def fuelScale : Nat := 40960000
/-- R71: a channel resistance above this is HIGH, in tenths of an ohm. -/
def fuelHighAbove : Nat := 40000
/-- R71: the internal series resistor in tenths of an ohm. -/
def fuelSeries : Nat := 10000
/-- R72: the reference resistance in ohms, multiplied by 2048. -/
def probeScale : Nat := 20480000

/-- R102: the band above the low fuel level that ends FUEL_LOW. -/
def fuelLowBand : Int := 20
/-- R105: the fuel error run at which SENDER_FAULT becomes present. -/
def senderFaultRun : Nat := 3
/-- R112: the probe error run at which PROBE_FAULT becomes present. -/
def probeFaultRun : Nat := 2
/-- R104, R111: the limit of an error run. -/
def errorRunMax : Nat := 255
/-- R5: the limit of completed defrosts, openings and open rounds. -/
def counterMax : Nat := 65535
/-- R159: the limit of a repeat count. -/
def repeatMax : Nat := 255
/-- R3: rounds in one unit of the defrost interval. -/
def intervalUnit : Nat := 60
/-- R149: the door limit of a bay with no record parked. -/
def doorLimitNoRecord : Nat := 1800
/-- R130: FSENSE in millivolts at SAG_LEVEL 0 of the line `790 + 10 n`. -/
def sagBase : Nat := 790
/-- R130: millivolts for each step of SAG_LEVEL. -/
def sagStep : Nat := 10
/-- R130, chapter 8.2: millivolts at FSENSE at the nominal feeder voltage. -/
def nominalFsense : Nat := 1000

end Sys2Proof.Config
end

