-- ==== Sys2Proof/Syntax.lean ====
section
/-! DEFINITION. The commands: one constructor for each row of spec/opcode_table.json. Operands of host commands are the
fields of the request payload as Table 55 carries them, so that malformed operands can be said. -/

namespace Sys2Proof

/-- The settings of a BOOK or AMEND request (Table 55): the settings mask and the twelve values. A value whose mask bit
is 0 occupies no bytes of the request and is not read. -/
structure SettingsArg where
  mask : Half
  fuelCurve : Byte
  probeCurve : Byte
  heaterLoad : Byte
  interval : Half
  clockMode : Byte
  termination : Half
  maxHeat : Half
  drip : Half
  lowFuel : Half
  dropThreshold : Half
  doorRunning : Half
  doorStopped : Half
deriving DecidableEq, Repr

/-- The levels of one bay's four lines at one line sample tick (R35). `true` is a closed loop or an active line
(Table 46). `senseFirst` says whether the socket sense line is taken before the bay's other lines at this instant; the
spec sets no order (R45; log 12). -/
structure LineSample where
  sense : Bool
  door : Bool
  run : Bool
  ovc : Bool
  senseFirst : Bool
deriving DecidableEq, Repr

/-- What stands at a resistance channel's input: the tank sender or coil probe, as a resistance in thousandths of an ohm
(R67), or a fault at the part's own input, which makes a network of its own resistance (R71, Notice). An open input is a
resistance on which the oscillator completes no cycle in time (R70; log 17). -/
inductive ChannelInput where
  | load (milliohms : Nat)
  | fault (milliohms : Nat)
deriving DecidableEq, Repr

/-- The commands of the block: the rows of the opcode table, in its order. -/
inductive Instr where
  /-- BOOK, R17. -/
  | book (number : TrailerNo) (settings : SettingsArg)
  /-- AMEND, R18. -/
  | amend (number : TrailerNo) (settings : SettingsArg)
  /-- RETIRE, R11. -/
  | retire (number : TrailerNo)
  /-- LOOKUP, R20. -/
  | lookup (selector : Byte) (operand : Word)
  /-- LIST, R21. -/
  | list (state : Byte)
  /-- ASSIGN, R16. -/
  | assign (bay : Byte) (number : TrailerNo)
  /-- REBASE, R22. -/
  | rebase (number : TrailerNo)
  /-- DEFROST_NOW, R123. -/
  | defrostNow (number : TrailerNo)
  /-- DEFROST_STOP, R122. -/
  | defrostStop (number : TrailerNo)
  /-- BAY_STATUS, R54. -/
  | bayStatus (bay : Byte)
  /-- BAY_ENABLE, R51. -/
  | bayEnable (bay : Byte)
  /-- BAY_DISABLE, R49. -/
  | bayDisable (bay : Byte)
  /-- CLEAR_FAULT, R48. -/
  | clearFault (bay : Byte)
  /-- SPOT, R79. -/
  | spot (bay : Byte) (kind : Byte)
  /-- CURVE_WRITE, R88: the count as declared, and the points carried (resistance, value). -/
  | curveWrite (curve : Byte) (kind : Byte) (count : Byte) (points : List (Word × Half))
  /-- CURVE_READ, R91. -/
  | curveRead (curve : Byte)
  /-- CURVE_CLEAR, R90. -/
  | curveClear (curve : Byte)
  /-- SET of ROUND_MS, R29. -/
  | setRoundMs (value : Word)
  /-- SET of CHECK_AT, R30. -/
  | setCheckAt (value : Word)
  /-- SET of GRANT_AT, R30. -/
  | setGrantAt (value : Word)
  /-- SET of SWEEP_AT, R30. -/
  | setSweepAt (value : Word)
  /-- SET of RESERVE_MS, R83. -/
  | setReserveMs (value : Word)
  /-- SET of FUEL_EVERY, R77. -/
  | setFuelEvery (value : Word)
  /-- SET of PROBE_EVERY, R77. -/
  | setProbeEvery (value : Word)
  /-- SET of SETTLE_ROUNDS, R151. -/
  | setSettleRounds (value : Word)
  /-- SET of SMOOTH_SHIFT, R99. -/
  | setSmoothShift (value : Word)
  /-- SET of FEEDER_UNITS, R129 and R141. -/
  | setFeederUnits (value : Word)
  /-- SET of SAG_LEVEL, R130. -/
  | setSagLevel (value : Word)
  /-- SET of RESTORE_ROUNDS, R133. -/
  | setRestoreRounds (value : Word)
  /-- SET of POWER_GOOD_MS, R44. -/
  | setPowerGoodMs (value : Word)
  /-- SET of GUARD, R150. -/
  | setGuard (value : Word)
  /-- SET naming RESET_CAUSE, R173. -/
  | setResetCause (value : Word)
  /-- GET, R173. -/
  | get (setting : Byte)
  /-- ROUTE_SET, R164. -/
  | routeSet (kind : Byte) (mask : Byte) (cls : Byte)
  /-- ROUTE_READ, R156. -/
  | routeRead (kind : Byte)
  /-- TAKE, R162. -/
  | take
  /-- ACK, R163. -/
  | ack (kind : Byte) (position : Byte)
  /-- RESET, R174. -/
  | reset
  /-- FRAME_ACCEPTED, R170: a complete frame's payload and the CHECK it carries. -/
  | frameAccepted (payload : List Byte) (check : Half)
  /-- FRAME_ABANDONED, R169. -/
  | frameAbandoned
  /-- FRAME_GAP_TIMEOUT, R169. -/
  | frameGapTimeout
  /-- ANSWER_SENT, R171. -/
  | answerSent
  /-- POWER_ON_RESET, R174. -/
  | powerOnReset
  /-- PIN_RESET, R174. -/
  | pinReset
  /-- COMMAND_RESET, R174. -/
  | commandReset
  /-- RESET_END, R32. -/
  | resetEnd
  /-- ROUND_START, R26: `order` is the order in which the bays' work of this instant is taken (R15; log 10). Bays it
  does not name follow in ascending order. -/
  | roundStart (order : List Bay)
  /-- CHANNEL_COUNTDOWN_EXPIRY, R75. -/
  | channelCountdownExpiry (bay : Bay) (kind : ChannelKind)
  /-- INTERVAL_EXPIRY, R114. -/
  | intervalExpiry (bay : Bay)
  /-- EXPIRY_IN_WAITING, R115. -/
  | expiryInWaiting (bay : Bay)
  /-- END_BY_MAXIMUM, R119. -/
  | endByMaximum (bay : Bay)
  /-- DRIP_END, R121. -/
  | dripEnd (bay : Bay)
  /-- CHECK_POINT, R27 and R131: the level at FSENSE, in whole millivolts. -/
  | checkPoint (fsense : Nat)
  /-- GRANT_POINT, R137. -/
  | grantPoint
  /-- SWEEP_START, R80. -/
  | sweepStart
  /-- SELECT_END, R68. -/
  | selectEnd
  /-- REFERENCE_END, R69: the oscillator's frequency on the reference resistor, in thousandths of a hertz (log 17). -/
  | referenceEnd (rate : Nat)
  /-- SENSOR_END, R70: what stands at the channel's input (log 17). -/
  | sensorEnd (input : ChannelInput)
  /-- WAKE_END, R58. -/
  | wakeEnd
  /-- PRESENCE_SEEN, R58. -/
  | presenceSeen
  /-- PRESENCE_WINDOW_CLOSE, R58. -/
  | presenceWindowClose
  /-- ATTEMPT_JUDGED, R62. -/
  | attemptJudged
  /-- SPACING_END, R63. -/
  | spacingEnd
  /-- CONNECT, R38. -/
  | connect (bay : Bay)
  /-- DISCONNECT, R52. -/
  | disconnect (bay : Bay)
  /-- DOOR_ACCEPTANCE, R147: `closed` is the level accepted, SHUT when true (Table 46). -/
  | doorAcceptance (bay : Bay) (closed : Bool)
  /-- RUN_ACCEPTANCE, R146: `active` is the level accepted, RUNNING when true (Table 46). -/
  | runAcceptance (bay : Bay) (active : Bool)
  /-- OVERCURRENT_ACCEPTANCE, R145: `closed` is the level accepted, CLEAR when true (Table 46). -/
  | overcurrentAcceptance (bay : Bay) (closed : Bool)
  /-- POWER_GOOD_WAIT_END, R43. -/
  | powerGoodWaitEnd (bay : Bay)
  /-- LINE_SAMPLE_TICK, R35: the levels sampled at every bay; `order` as for ROUND_START (R56; log 10). -/
  | lineSampleTick (samples : Vector LineSample 16) (order : List Bay)
  /-- BIT_SLOT_SAMPLE, R60: the level seen on the head bay's tag line, high when true. -/
  | bitSlotSample (high : Bool)
  /-- BYTE_RECEIVED, R169: a byte with a good stop bit. -/
  | byteReceived (value : Byte)
deriving DecidableEq, Repr

end Sys2Proof
end

