-- ==== Sys2Proof/WellFormed.lean ====
section
/-! DEFINITION. Which commands can come from outside: the checks on operands that the types do not make. A meaning is
total on ill-formed commands too; the checks say which terms stand for something the sender can do. -/

namespace Sys2Proof

/-- The mask bit of setting `n` of the settings block (Table 55). -/
def SettingsArg.gives (a : SettingsArg) (n : Nat) : Bool := a.mask.getLsbD n

/-- R175: a setting whose mask bit is 0 occupies no bytes, so the term holds 0 for it. -/
def SettingsArg.canonical (a : SettingsArg) : Bool :=
  (a.gives 0 || a.fuelCurve == 0) && (a.gives 1 || a.probeCurve == 0) && (a.gives 2 || a.heaterLoad == 0)
    && (a.gives 3 || a.interval == 0) && (a.gives 4 || a.clockMode == 0) && (a.gives 5 || a.termination == 0)
    && (a.gives 6 || a.maxHeat == 0) && (a.gives 7 || a.drip == 0) && (a.gives 8 || a.lowFuel == 0)
    && (a.gives 9 || a.dropThreshold == 0) && (a.gives 10 || a.doorRunning == 0) && (a.gives 11 || a.doorStopped == 0)

/-- R169: the payload lengths a frame can have. -/
def framePayloadOk (n : Nat) : Bool := decide (1 ≤ n) && decide (n ≤ Config.maxPayload)

/-- A command that the sender can give. -/
def Instr.wellFormed : Instr → Bool
  | .book _ a => a.canonical
  | .amend _ a => a.canonical
  | .curveWrite _ _ _ pts => decide (pts.length ≤ Config.maxFramePoints)
  | .frameAccepted p _ => framePayloadOk p.length
  | .roundStart order => decide order.Nodup
  | .lineSampleTick _ order => decide order.Nodup
  | .retire _ | .lookup _ _ | .list _ | .assign _ _ | .rebase _ | .defrostNow _ | .defrostStop _ => true
  | .bayStatus _ | .bayEnable _ | .bayDisable _ | .clearFault _ | .spot _ _ | .curveRead _ | .curveClear _ => true
  | .setRoundMs _ | .setCheckAt _ | .setGrantAt _ | .setSweepAt _ | .setReserveMs _ | .setFuelEvery _ => true
  | .setProbeEvery _ | .setSettleRounds _ | .setSmoothShift _ | .setFeederUnits _ | .setSagLevel _ => true
  | .setRestoreRounds _ | .setPowerGoodMs _ | .setGuard _ | .setResetCause _ | .get _ => true
  | .routeSet _ _ _ | .routeRead _ | .take | .ack _ _ | .reset => true
  | .frameAbandoned | .frameGapTimeout | .answerSent => true
  | .powerOnReset | .pinReset | .commandReset | .resetEnd => true
  | .channelCountdownExpiry _ _ | .intervalExpiry _ | .expiryInWaiting _ | .endByMaximum _ | .dripEnd _ => true
  | .checkPoint _ | .grantPoint | .sweepStart | .selectEnd | .referenceEnd _ | .sensorEnd _ => true
  | .wakeEnd | .presenceSeen | .presenceWindowClose | .attemptJudged | .spacingEnd => true
  | .connect _ | .disconnect _ | .doorAcceptance _ _ | .runAcceptance _ _ | .overcurrentAcceptance _ _ => true
  | .powerGoodWaitEnd _ | .bitSlotSample _ | .byteReceived _ => true

end Sys2Proof
end

