-- ==== Sys2Proof/Decode.lean ====
section
/-! DEFINITION. The command a word spells by the bits of spec/opcode_table.json. No row of this block's table gives
bits, so no word spells a command; requests reach the block as bytes of the host link (R168 to R175), which
Sys2Proof/Machine/Operands.lean reads and writes. -/

namespace Sys2Proof

/-- No row of the opcode table has bits: every word is refused (log 1). -/
def decodeTableWord (_nbits _w : Nat) : Option Instr := none

end Sys2Proof
end

