-- ==== Sys2Proof/Machine/State.lean ====
section
/-! DEFINITION. The state of the part as plain data, block by block, and its value right after a reset. Each structure
follows the table of spec/ named in its docstring; a field the model adds is marked so. -/

namespace Sys2Proof.Machine

/-! ## Names of values -/

/-- Origin of a record (R2). -/
inductive Origin where
  | booked
  | unbooked
deriving DecidableEq, Repr

/-- Interval clock mode (R3). -/
inductive ClockMode where
  | wall
  | run
deriving DecidableEq, Repr

/-- Kind of a conversion error (R4, R73); NONE is a last error kind only. -/
inductive ErrorKind where
  | none
  | opened
  | short
  | reference
  | high
deriving DecidableEq, Repr

/-- Class of a defrost request (R5). -/
inductive DefrostClass where
  | normal
  | urgent
deriving DecidableEq, Repr

/-- Door state (R143). -/
inductive DoorState where
  | unknown
  | shut
  | opened
deriving DecidableEq, Repr

/-- Run state (R143). -/
inductive RunState where
  | unknown
  | running
  | stopped
deriving DecidableEq, Repr

/-- Over-current state (R143). -/
inductive OvcState where
  | clear
  | tripped
deriving DecidableEq, Repr

/-- GUARD (R150). -/
inductive Guard where
  | off
  | opening
  | any
deriving DecidableEq, Repr

/-- The feeder verdict (R131). -/
inductive Verdict where
  | sag
  | clear
deriving DecidableEq, Repr

/-- Class of a notice route (R156). -/
inductive NoticeClass where
  | high
  | low
deriving DecidableEq, Repr

/-- Cause of a reset (R174). -/
inductive ResetCause where
  | power
  | pin
  | command
deriving DecidableEq, Repr

/-- One of the 32 channels (R66). -/
structure Channel where
  bay : Bay
  kind : ChannelKind
deriving DecidableEq, Repr

/-! ## Round timer (R25, Table 14) -/

/-- The four settings that the round timer holds stored and in force. -/
structure RoundSettings where
  roundMs : Nat
  checkAt : Nat
  grantAt : Nat
  sweepAt : Nat
deriving DecidableEq, Repr

/-- The three points within a round (R27). -/
inductive Point where
  | check
  | grant
  | sweep
deriving DecidableEq, Repr

/-- How a point stands in the round in progress (R27): not yet come, come, or come and the next round's come as well, at
the instant of a round start not yet taken (log 26). -/
inductive PointState where
  | outstanding
  | taken
  | takenAhead
deriving DecidableEq, Repr

/-- The three points of the round in progress (R27). -/
structure Points where
  check : PointState
  grant : PointState
  sweep : PointState
deriving DecidableEq, Repr

/-- Table 14, and the part's time base. `timeUs` is the microseconds of the time base since the reset ended (R35, R55);
`points` says which points of the round have come (R27), and `tickUs` is the instant of the next line sample tick (R35):
fields of the model. -/
@[ext]
structure Timer where
  stored : RoundSettings
  inForce : RoundSettings
  number : Round
  remaining : Nat
  timeUs : Nat
  points : Points
  tickUs : Nat
deriving DecidableEq, Repr

/-! ## Bay controllers (R36, Table 18) -/

/-- Held reason, with the held tag where the reason has one (R40). -/
inductive Held where
  | tagFail
  | conflict (tag : TrailerNo)
  | tableFull (tag : TrailerNo)
deriving DecidableEq, Repr

/-- Bay state; HELD carries its reason and tag, which are present only there. -/
inductive BayState where
  | empty
  | identifying
  | held (reason : Held)
  | serving
  | fault
  | disabled
deriving DecidableEq, Repr

/-- Table 18. `powerOn` is the PWR output (R42). -/
@[ext]
structure BayCtl where
  state : BayState
  connected : Bool
  differing : Nat
  powerOn : Bool
  powerGood : Bool
  wait : Option Nat
  ref : Option SlotIx
deriving DecidableEq, Repr

/-! ## Door watch (R143, Table 45) -/

/-- The door figures that a PARKED record copies (R5, R152). -/
structure DoorFigures where
  state : DoorState
  openings : Nat
  openRounds : Nat
  lastChange : Option Round
deriving DecidableEq, Repr

/-- Candidate level and run of one line (R144); a level is true for a closed loop or an active line. -/
structure Line where
  candidate : Option Bool
  run : Nat
deriving DecidableEq, Repr

/-- Table 45. -/
@[ext]
structure DoorWatch where
  figures : DoorFigures
  run : RunState
  ovc : OvcState
  doorLine : Line
  runLine : Line
  ovcLine : Line
  settle : Nat
  doorLong : Bool
deriving DecidableEq, Repr

/-! ## Tag reader (R55, Table 21) -/

/-- Attempt phase. In BITS: the slot number, bit counter, shift byte and the bytes stored, first first (Table 21);
`began` is the instant the first slot began (R59), a field of the model. -/
inductive Phase where
  | wake
  | presence
  | bits (began : Nat) (slot : Nat) (count : BitVec 3) (shift : Byte) (bytes : List Byte)
deriving DecidableEq, Repr

/-- Reader state with the values present in each. -/
inductive ReaderState where
  | idle
  | attempt (number : Nat) (start : Nat) (phase : Phase)
  | spacing (number : Nat) (start : Nat)
deriving DecidableEq, Repr

/-- Table 21. `ahead` is the microseconds by which rows have brought the head's read ahead of the time base, a field of
the model (log 23). -/
@[ext]
structure Reader where
  state : ReaderState
  queue : List Bay
  ahead : Nat
deriving DecidableEq, Repr

/-! ## Resistance converter (R66, Table 25) -/

/-- Converter stage with the values present in each. -/
inductive Stage where
  | idle
  | select (channel : Channel)
  | reference (channel : Channel) (timebase : Nat) (cycles : Nat)
  | sensor (channel : Channel) (held : Nat) (timebase : Nat) (cycles : Nat)
deriving DecidableEq, Repr

/-- Countdown and due mark of one channel. -/
structure ChannelCtl where
  countdown : Nat
  due : Option Round
deriving DecidableEq, Repr

/-- The two channels of a bay (R67). -/
structure BayChannels where
  fuel : ChannelCtl
  probe : ChannelCtl
deriving DecidableEq, Repr

/-- Table 25. `sweep` is the sweep list while the sweep is OPEN and none while it is CLOSED. Fields of the model: `settle`
is the timebase ticks that SELECT has still to last (R68); `phase` the part of an oscillator cycle gone since the last
one counted, in the parts that R69 and R70 make of a cycle (log 17). -/
@[ext]
structure Converter where
  stage : Stage
  sweep : Option (List Channel)
  channels : Vector BayChannels 16
  spot : List Channel
  fuelEvery : Nat
  probeEvery : Nat
  reserveMs : Nat
  settle : Nat
  phase : Nat
deriving DecidableEq, Repr

/-! ## Trailer table (R1 to R5, Tables 5 to 8) -/

/-- Lifecycle state of a record with the place fields present in each (Table 5). -/
inductive Place where
  | booked
  | parked (bay : Bay) (since : Round)
  | departed (lastBay : Bay) (since : Round) (leftAt : Round)
deriving DecidableEq, Repr

/-- Table 6. A curve of `none` is NONE. -/
structure Settings where
  fuelCurve : Option (Fin 8)
  probeCurve : Option (Fin 8)
  heaterLoad : Nat
  interval : Nat
  clockMode : ClockMode
  termination : Int
  maxHeat : Nat
  drip : Nat
  lowFuel : Nat
  dropThreshold : Nat
  doorRunning : Nat
  doorStopped : Nat
deriving DecidableEq, Repr

/-- The fuel figures of Table 7. -/
structure FuelFigures where
  lastResistance : Option Nat
  lastLevel : Option Int
  filtered : Option Int
  baseline : Option Int
  lastRound : Option Round
  errorRun : Nat
  lastError : ErrorKind
deriving DecidableEq, Repr

/-- The probe figures of Table 7. -/
structure ProbeFigures where
  lastResistance : Option Nat
  coil : Option Int
  errorRun : Nat
  lastError : ErrorKind
deriving DecidableEq, Repr

/-- Defrost state with the class present in WAITING and the granted class present in HEATING (R5, R108). -/
inductive DefrostState where
  | idle
  | waiting (cls : DefrostClass)
  | heating (granted : DefrostClass)
  | dripping
deriving DecidableEq, Repr

/-- The defrost figures of Table 8. -/
structure DefrostFigures where
  state : DefrostState
  intervalCount : Nat
  heatRounds : Nat
  dripCount : Nat
  completed : Nat
deriving DecidableEq, Repr

/-- A record (R2 to R5). -/
@[ext]
structure Record where
  number : TrailerNo
  origin : Origin
  place : Place
  settings : Settings
  fuel : FuelFigures
  probe : ProbeFigures
  defrost : DefrostFigures
  door : DoorFigures
deriving DecidableEq, Repr

/-- A curve that is not empty (R87): its kind and its points (resistance, value) in stored order. -/
structure Curve where
  kind : ChannelKind
  points : List (Nat × Int)
deriving DecidableEq, Repr

/-- Presence of the conditions that the fuel chain and the defrost controller hold for a bay (R94, R108). -/
@[ext]
structure Conditions where
  senderFault : Bool
  fuelLow : Bool
  fuelDrop : Bool
  probeFault : Bool
deriving DecidableEq, Repr

/-! ## Feeder arbiter (R126, Table 41) -/

/-- A grant entry. -/
structure Grant where
  bay : Bay
  load : Nat
  round : Round
deriving DecidableEq, Repr

/-- Table 41; `comparatorOn` is the power of the feeder comparator (R130). Grants stand oldest first. -/
@[ext]
structure Feeder where
  units : Nat
  sagLevel : Nat
  restoreRounds : Nat
  shed : Nat
  restoreCounter : Nat
  verdict : Verdict
  grants : List Grant
  rank : Vector Nat 16
  comparatorOn : Bool
deriving DecidableEq, Repr

/-! ## Notice unit (R154 to R157, Tables 49 and 50) -/

/-- The fifteen notice kinds whose position is a bay (Table 49, kinds 1 to 15). -/
inductive BayKind where
  | parked
  | left
  | tagFail
  | tagConflict
  | tableFull
  | overcurrent
  | defrostEnd
  | defrostLate
  | defrostLong
  | probeFault
  | fuelLow
  | fuelDrop
  | senderFault
  | doorLong
  | doorGuard
deriving DecidableEq, Repr

/-- A notice kind (Table 49). -/
inductive Kind where
  | bay (kind : BayKind)
  | feederSag
deriving DecidableEq, Repr

/-- A key: kinds 1 to 15 at a bay, kind 16 at ROW (R155). -/
inductive Key where
  | bay (kind : BayKind) (bay : Bay)
  | feederSag
deriving DecidableEq, Repr

/-- The value a notice carries (Table 49, column Value). -/
inductive NoticeValue where
  | origin (o : Origin)
  | tag (t : TrailerNo)
  | rounds (n : Nat)
  | error (e : ErrorKind)
  | level (l : Int)
  | units (n : Nat)
deriving DecidableEq, Repr

/-- What a slot keeps from its entry to RAISED: raise round and class at raise (Table 50). -/
structure RaiseInfo where
  round : Round
  cls : NoticeClass
deriving DecidableEq, Repr

/-- Delivery state with the fields present in each (Table 50): repeat count in RAISED of an event, queued in RAISED. -/
inductive Delivery where
  | idle
  | raised (info : RaiseInfo) (repeats : Option Nat) (queued : Bool)
  | taken (info : RaiseInfo)
  | acked (info : RaiseInfo)
deriving DecidableEq, Repr

/-- A notice slot (Table 50). -/
@[ext]
structure Slot where
  delivery : Delivery
  present : Bool
  trailer : Option TrailerNo
  value : Option NoticeValue
deriving DecidableEq, Repr

/-- A route (R156). -/
structure Route where
  masked : Bool
  cls : NoticeClass
deriving DecidableEq, Repr

/-- The notice unit: slots by `Key.index`, routes by kind number less one, the delivery queue head first, ATTN (R166). -/
@[ext]
structure Notices where
  slots : Vector Slot 241
  routes : Vector Route 16
  queue : List Key
  attn : Bool
deriving DecidableEq, Repr

/-! ## Host link (R169, R171) -/

/-- Receiver state; BODY holds the LENGTH taken and the bytes stored, first first. -/
inductive Receiver where
  | hunt
  | length
  | body (expected : Nat) (stored : List Byte)
deriving DecidableEq, Repr

/-- Transmitter; SENDING holds the whole frame it sends, SYNC to CHECK. -/
inductive Transmitter where
  | idle
  | sending (frame : List Byte)
deriving DecidableEq, Repr

/-- The host link. The receive buffer holds the payload of a frame whose CHECK has matched. `resetArmed` says that the
answer being sent is RESET's, whose end begins the command reset (R174); it is the model's field. -/
@[ext]
structure Link where
  receiver : Receiver
  buffer : Option (List Byte)
  transmitter : Transmitter
  resetArmed : Bool
deriving DecidableEq, Repr

/-! ## What stands outside -/

/-- The oscillator's frequencies on the two reference resistors (R67), in thousandths of a hertz. -/
structure Rates where
  fuel : Nat
  probe : Nat
deriving DecidableEq, Repr

/-- What stands at the inputs of a bay's two channels (R67). -/
structure BayInputs where
  fuel : ChannelInput
  probe : ChannelInput
deriving DecidableEq, Repr

/-- What the part reads and does not set: the levels at the sampled lines of the bays (R35), the level at which each tag
line stands while the part does not drive it, true for high (R58, R59), the level at FSENSE in whole millivolts (R130),
the inputs of the resistance channels, and the oscillator's frequencies on its reference resistors (R67), each as the
latest row brought it (log 4, log 9, log 17). No reset changes it. -/
@[ext]
structure Outside where
  lines : Vector LineSample 16
  tags : Vector Bool 16
  fsense : Nat
  references : Rates
  inputs : Vector BayInputs 16
deriving DecidableEq, Repr

/-! ## The part -/

/-- The whole part. `outside` is what stands at its inputs. `resetting` is the cause of the reset in progress, if one is
(R174). `pending` is the block's queue of waiting commands, first in, first out; it is the model's field (log 1). -/
@[ext]
structure State where
  timer : Timer
  bays : Vector BayCtl 16
  doors : Vector DoorWatch 16
  reader : Reader
  converter : Converter
  table : Vector (Option Record) 32
  curves : Vector (Option Curve) 8
  conditions : Vector Conditions 16
  heat : Vector Bool 16
  feeder : Feeder
  notices : Notices
  link : Link
  powerGoodMs : Nat
  guard : Guard
  settleRounds : Nat
  smoothShift : Nat
  outside : Outside
  resetting : Option ResetCause
  resetCause : ResetCause
  pending : List Instr
deriving DecidableEq, Repr

/-- The block has no fault: the spec describes none (every refused request is answered with a status, R172). -/
inductive Fault : Type
deriving DecidableEq, Repr

/-- Why a command has no meaning. -/
inductive Refusal where
  /-- Raised by `exec` alone, for a command of the opcode table without a meaning yet: safe, the machine stops. No arm
  raises it now. -/
  | notModelled (mnemonic : String)
deriving DecidableEq, Repr

/-! ## Reset values -/

/-- Table 14: the defaults. -/
def RoundSettings.default : RoundSettings := { roundMs := 1000, checkAt := 20, grantAt := 40, sweepAt := 60 }

/-- No point of a round has still to come. -/
def Points.allTaken : Points := { check := .taken, grant := .taken, sweep := .taken }

/-- Table 14. Round remaining is loaded at the first round start; until then 0, DESIGN CHOICE (unsafe, log 2). No point
comes before the first round start (R32), and the first line sample tick 10 ms after the reset's end (R35). -/
def Timer.reset : Timer :=
  { stored := .default, inForce := .default, number := 65535, remaining := 0, timeUs := 0, points := .allTaken,
    tickUs := Config.tickPeriod }

/-- Table 18. -/
def BayCtl.reset : BayCtl :=
  { state := .empty, connected := false, differing := 0, powerOn := false, powerGood := false, wait := none, ref := none }

/-- The unwatched values of Table 45. -/
def DoorFigures.unwatched : DoorFigures := { state := .unknown, openings := 0, openRounds := 0, lastChange := none }

/-- A line with no candidate. -/
def Line.none : Line := { candidate := Option.none, run := 0 }

/-- The unwatched values of Table 45. -/
def DoorWatch.unwatched : DoorWatch :=
  { figures := .unwatched, run := .unknown, ovc := .clear, doorLine := .none, runLine := .none, ovcLine := .none,
    settle := 0, doorLong := false }

/-- Table 21. -/
def Reader.reset : Reader := { state := .idle, queue := [], ahead := 0 }

/-- A channel without a due mark. -/
def ChannelCtl.reset : ChannelCtl := { countdown := 0, due := none }

/-- Table 25. -/
def Converter.reset : Converter :=
  { stage := .idle, sweep := none, channels := Vector.replicate 16 { fuel := .reset, probe := .reset }, spot := [],
    fuelEvery := 60, probeEvery := 30, reserveMs := 30, settle := 0, phase := 0 }

/-- No condition present (R94, R108). -/
def Conditions.none : Conditions := { senderFault := false, fuelLow := false, fuelDrop := false, probeFault := false }

/-- Table 41; the comparator is unpowered until the first round start, DESIGN CHOICE (unsafe, log 24). -/
def Feeder.reset : Feeder :=
  { units := 0, sagLevel := 0, restoreRounds := 10, shed := 0, restoreCounter := 0, verdict := .clear, grants := [],
    rank := Vector.ofFn (fun b => b.val), comparatorOn := false }

/-- Table 49, column Default class, of the kinds at bays. -/
def BayKind.defaultClass : BayKind → NoticeClass
  | .tagConflict | .overcurrent | .fuelDrop | .doorGuard => .high
  | .parked | .left | .tagFail | .tableFull | .defrostEnd | .defrostLate | .defrostLong | .probeFault | .fuelLow => .low
  | .senderFault | .doorLong => .low

/-- The kinds at bays in the order of their numbers (Table 49). -/
def bayKinds : List BayKind :=
  [.parked, .left, .tagFail, .tagConflict, .tableFull, .overcurrent, .defrostEnd, .defrostLate, .defrostLong, .probeFault,
    .fuelLow, .fuelDrop, .senderFault, .doorLong, .doorGuard]

/-- R155: a slot after reset. -/
def Slot.reset : Slot := { delivery := .idle, present := false, trailer := none, value := none }

/-- R156: the route of a kind after reset. -/
def Route.reset (cls : NoticeClass) : Route := { masked := false, cls := cls }

/-- R156: the sixteen routes after reset, in the order of the kinds' numbers; FEEDER_SAG is HIGH. -/
def Notices.resetRoutes : Vector Route 16 :=
  #v[.reset (BayKind.defaultClass .parked), .reset (BayKind.defaultClass .left), .reset (BayKind.defaultClass .tagFail),
    .reset (BayKind.defaultClass .tagConflict), .reset (BayKind.defaultClass .tableFull),
    .reset (BayKind.defaultClass .overcurrent), .reset (BayKind.defaultClass .defrostEnd),
    .reset (BayKind.defaultClass .defrostLate), .reset (BayKind.defaultClass .defrostLong),
    .reset (BayKind.defaultClass .probeFault), .reset (BayKind.defaultClass .fuelLow),
    .reset (BayKind.defaultClass .fuelDrop), .reset (BayKind.defaultClass .senderFault),
    .reset (BayKind.defaultClass .doorLong), .reset (BayKind.defaultClass .doorGuard), .reset .high]

/-- R155, R156, R157, R166. -/
def Notices.reset : Notices :=
  { slots := Vector.replicate 241 .reset, routes := Notices.resetRoutes, queue := [], attn := false }

/-- R169, R171. -/
def Link.reset : Link := { receiver := .hunt, buffer := none, transmitter := .idle, resetArmed := false }

/-- Before any row has brought a level: no trailer plugged in, every door loop open, every run line inactive and every
over-current relay closed; every tag line at the level of its pull-up; FSENSE at the nominal level; the oscillator at the nominal 200 kHz of R67 on its reference
resistors, and every channel's network equal to them. DESIGN CHOICE (unsafe, log 4, log 9, log 17). -/
def Outside.initial : Outside :=
  { lines := Vector.replicate 16 { sense := false, door := false, run := false, ovc := true, senseFirst := false }
    tags := Vector.replicate 16 true
    fsense := Config.nominalFsense
    references := { fuel := Config.nominalRate, probe := Config.nominalRate }
    inputs := Vector.replicate 16 { fuel := .load Config.nominalSender, probe := .load Config.probeReference } }

/-- The machine right after a reset has set every block to its reset values: a power-on reset, which RESET_END ends
(R32, R174; log 2). RESET_CAUSE has not been written by any reset yet: POWER, DESIGN CHOICE (unsafe, log 2). -/
def State.reset : State :=
  { timer := .reset
    bays := Vector.replicate 16 .reset
    doors := Vector.replicate 16 .unwatched
    reader := .reset
    converter := .reset
    table := Vector.replicate 32 none
    curves := Vector.replicate 8 none
    conditions := Vector.replicate 16 .none
    heat := Vector.replicate 16 false
    feeder := .reset
    notices := .reset
    link := .reset
    powerGoodMs := 200
    guard := .off
    settleRounds := 30
    smoothShift := 2
    outside := .initial
    resetting := some .power
    resetCause := .power
    pending := [] }

end Sys2Proof.Machine
end

