-- ==== Sys2Proof/Machine/Ops.lean ====
section
/-! DEFINITION. Operations shared by every block: reading and changing one entry of a block's state, the order of
simultaneous work, the arithmetic of the manual's rounding and clamping rules, and the gate of a reset in progress. -/

namespace Sys2Proof.Machine

/-! ## Numbers (00_scope, Conventions) -/

/-- A value outside its range is clamped to the nearer end (00_scope, Ranges, clamping and saturation). -/
def clamp (lo hi v : Nat) : Nat := min hi (max lo v)

/-- Clamping of a signed value. -/
def clampInt (lo hi v : Int) : Int := min hi (max lo v)

/-- A counter that saturates at `limit`. -/
def bump (limit v : Nat) : Nat := min limit (v + 1)

/-- Quotient of natural numbers rounded to nearest, halves up; `d` is above 0. -/
def divHalfUp (n d : Nat) : Nat := (2 * n + d) / (2 * d)

/-- Quotient rounded to nearest, halves away from zero; `d` is above 0. -/
def divHalfAway (n : Int) (d : Nat) : Int :=
  if n < 0 then -(divHalfUp n.natAbs d : Int) else (divHalfUp n.natAbs d : Int)

/-- R34: the age of a stored round number. -/
def age (now stamp : Round) : Nat := (now - stamp).toNat

/-! ## Order of simultaneous work -/

/-- The bays in the order named, each once, then the bays not named in ascending order (log 10). -/
def completeOrder (order : List Bay) : List Bay :=
  order.eraseDups ++ allBays.filter (fun b => !order.contains b)

/-- Work done at each bay of a list, in its order. -/
def forBays (work : Bay → State → State) (bays : List Bay) (s : State) : State :=
  bays.foldl (fun t b => work b t) s

/-- Insertion of `a` before the first element it stands ahead of. -/
def insertBy {α : Type} (ahead : α → α → Bool) (a : α) : List α → List α
  | [] => [a]
  | b :: rest => if ahead a b then a :: b :: rest else b :: insertBy ahead a rest

/-- A list put in the order of `ahead`; elements of which neither stands ahead keep their order. -/
def sortBy {α : Type} (ahead : α → α → Bool) (l : List α) : List α :=
  l.foldl (fun sorted a => insertBy ahead a sorted) []

/-! ## One entry of a block's state -/

/-- Change bay `b`'s controller. -/
def State.modBay (b : Bay) (f : BayCtl → BayCtl) (s : State) : State :=
  { s with bays := s.bays.set b.val (f s.bays[b]) }

/-- Change bay `b`'s door watch. -/
def State.modDoor (b : Bay) (f : DoorWatch → DoorWatch) (s : State) : State :=
  { s with doors := s.doors.set b.val (f s.doors[b]) }

/-- Change the conditions held for bay `b`. -/
def State.modCond (b : Bay) (f : Conditions → Conditions) (s : State) : State :=
  { s with conditions := s.conditions.set b.val (f s.conditions[b]) }

/-- Switch bay `b`'s heater permit (R109). -/
def State.setHeat (b : Bay) (on : Bool) (s : State) : State :=
  { s with heat := s.heat.set b.val on }

/-- Put a slot of the trailer table. -/
def State.putSlot (i : SlotIx) (r : Option Record) (s : State) : State :=
  { s with table := s.table.set i.val r }

/-- Change the record in slot `i`, if the slot holds one. -/
def State.modSlot (i : SlotIx) (f : Record → Record) (s : State) : State :=
  s.putSlot i (s.table[i].map f)

/-- Change the converter. -/
def State.modConverter (f : Converter → Converter) (s : State) : State :=
  { s with converter := f s.converter }

/-- Change the feeder arbiter. -/
def State.modFeeder (f : Feeder → Feeder) (s : State) : State :=
  { s with feeder := f s.feeder }

/-- Change the notice unit. -/
def State.modNotices (f : Notices → Notices) (s : State) : State :=
  { s with notices := f s.notices }

/-- Change the tag reader. -/
def State.modReader (f : Reader → Reader) (s : State) : State :=
  { s with reader := f s.reader }

/-- Change the host link. -/
def State.modLink (f : Link → Link) (s : State) : State :=
  { s with link := f s.link }

/-- Change the round timer. -/
def State.modTimer (f : Timer → Timer) (s : State) : State :=
  { s with timer := f s.timer }

/-- Change what stands outside. -/
def State.modOutside (f : Outside → Outside) (s : State) : State :=
  { s with outside := f s.outside }

/-- Change the levels standing at bay `b`'s lines. -/
def State.modLines (b : Bay) (f : LineSample → LineSample) (s : State) : State :=
  { s with outside := { s.outside with lines := s.outside.lines.set b.val (f s.outside.lines[b]) } }

/-- Bring the level at which bay `b`'s tag line stands. -/
def State.setTagLine (b : Bay) (high : Bool) (s : State) : State :=
  { s with outside := { s.outside with tags := s.outside.tags.set b.val high } }

/-- Change the record parked at bay `b`, reached by the bay's reference (R7, R24). -/
def State.modParked (b : Bay) (f : Record → Record) (s : State) : State :=
  match s.bays[b].ref with
  | some i => s.modSlot i f
  | none => s

/-- The record that bay `b` refers to (R7, R24). -/
def State.recordAt (s : State) (b : Bay) : Option Record :=
  s.bays[b].ref.bind (fun i => s.table[i])

/-- The trailer number of the record parked at bay `b`. -/
def State.trailerAt (s : State) (b : Bay) : Option TrailerNo :=
  (s.recordAt b).map (·.number)

/-! ## The index (R1) -/

/-- The slots of the table, in ascending order. -/
def allSlots : List SlotIx := List.finRange 32

/-- R1: the index from trailer number to slot. -/
def State.slotOf (s : State) (n : TrailerNo) : Option SlotIx :=
  allSlots.find? (fun i => (s.table[i].map (·.number)) == some n)

/-- R1: a FREE slot, the lowest; which one is not observable (log 15). -/
def State.freeSlot (s : State) : Option SlotIx :=
  allSlots.find? (fun i => s.table[i].isNone)

/-! ## Lifecycle -/

/-- The bay of a PARKED record. -/
def Place.bay? : Place → Option Bay
  | .parked b _ => some b
  | .booked => none
  | .departed _ _ _ => none

/-! ## The gate of a reset in progress -/

/-- R174, R32, R35: while a reset lasts the part takes nothing from outside and no event of its blocks occurs
(log 6). -/
def whenRunning (s : State) (work : State → State) : Host.Outcome State Fault Refusal :=
  match s.resetting with
  | none => .next (work s)
  | some _ => .next s

end Sys2Proof.Machine
end

