-- ==== Sys2Proof/Machine/Converter.lean ====
section
/-! DEFINITION. The resistance converter's own state (R66 to R86): countdowns and due marks, the spot list, the sweep,
and the stages of a conversion with their arithmetic. What a completed conversion does to a record is in
Measure.lean. -/

namespace Sys2Proof.Machine

/-- The channel of a bay. -/
def BayChannels.get (k : ChannelKind) (c : BayChannels) : ChannelCtl :=
  match k with
  | .fuel => c.fuel
  | .probe => c.probe

/-- Change a channel of a bay. -/
def BayChannels.mod (k : ChannelKind) (f : ChannelCtl → ChannelCtl) (c : BayChannels) : BayChannels :=
  match k with
  | .fuel => { c with fuel := f c.fuel }
  | .probe => { c with probe := f c.probe }

/-- The frequency on a kind's reference resistor. -/
def Rates.get (k : ChannelKind) (x : Rates) : Nat :=
  match k with
  | .fuel => x.fuel
  | .probe => x.probe

/-- Put the frequency on a kind's reference resistor. -/
def Rates.put (k : ChannelKind) (rate : Nat) (x : Rates) : Rates :=
  match k with
  | .fuel => { x with fuel := rate }
  | .probe => { x with probe := rate }

/-- The input of a kind's channel. -/
def BayInputs.get (k : ChannelKind) (x : BayInputs) : ChannelInput :=
  match k with
  | .fuel => x.fuel
  | .probe => x.probe

/-- Put the input of a kind's channel. -/
def BayInputs.put (k : ChannelKind) (input : ChannelInput) (x : BayInputs) : BayInputs :=
  match k with
  | .fuel => { x with fuel := input }
  | .probe => { x with probe := input }

/-! ## The oscillator (R67) -/

/-- R67: the reference resistor of a kind, in thousandths of an ohm. -/
def referenceResistor : ChannelKind → Nat
  | .fuel => Config.fuelReference
  | .probe => Config.probeReference

/-- R67: the resistance of the network an input makes, in thousandths of an ohm: a tank sender in series with the internal
resistor, or the coil probe alone. A network below a thousandth of an ohm counts as that (log 17). -/
def networkOf (k : ChannelKind) : ChannelInput → Nat
  | .load r =>
    match k with
    | .fuel => Config.fuelSeriesMilliohms + r
    | .probe => max 1 r
  | .fault r => max 1 r

namespace Outside

/-- R67: the oscillator's frequency on the reference resistor of a channel's kind. -/
def referenceRate (o : Outside) (ch : Channel) : Nat := o.references.get ch.kind

/-- What stands at a channel's input. -/
def input (o : Outside) (ch : Channel) : ChannelInput := o.inputs[ch.bay].get ch.kind

/-- R67: the resistance of a channel's network. -/
def network (o : Outside) (ch : Channel) : Nat := networkOf ch.kind (o.input ch)

/-- The frequency on the reference resistor of a channel's kind is as REFERENCE_END brings it (log 17). -/
def putReference (ch : Channel) (rate : Nat) (o : Outside) : Outside :=
  { o with references := o.references.put ch.kind rate }

/-- A channel's input is as SENSOR_END brings it (log 17). -/
def putInput (ch : Channel) (input : ChannelInput) (o : Outside) : Outside :=
  { o with inputs := o.inputs.set ch.bay.val (o.inputs[ch.bay].put ch.kind input) }

end Outside

/-- R67: the oscillator at work on a network: in each timebase tick it goes through `num` of the `den` parts of a
cycle. -/
structure Oscillation where
  num : Nat
  den : Nat
deriving DecidableEq, Repr

/-- R67: on the reference resistor of a channel's kind it runs at the reference frequency. -/
def Outside.onReference (o : Outside) (ch : Channel) : Oscillation :=
  { num := o.referenceRate ch, den := Config.timebaseRate }

/-- R67: on a channel's network it runs at the reference frequency multiplied by the reference resistance and divided by
the network's resistance, exactly. -/
def Outside.onNetwork (o : Outside) (ch : Channel) : Oscillation :=
  { num := o.referenceRate ch * referenceResistor ch.kind, den := Config.timebaseRate * o.network ch }

namespace Oscillation

/-- R69, R70: the ticks until the oscillator has completed `cycles` further cycles; an oscillator that stands completes
none within the span of the timebase counter. -/
def ticksFor (x : Oscillation) (phase cycles : Nat) : Nat :=
  if cycles = 0 then 0
  else if x.num = 0 then Config.counterSpan
  else (cycles * x.den - phase + (x.num - 1)) / x.num

/-- R69, R70: the cycles the oscillator completes in `ticks` ticks. -/
def cyclesIn (x : Oscillation) (phase ticks : Nat) : Nat := (phase + ticks * x.num) / x.den

/-- The part of a cycle gone after `ticks` ticks. -/
def phaseAfter (x : Oscillation) (phase ticks : Nat) : Nat := (phase + ticks * x.num) % x.den

end Oscillation

/-- The channel whose conversion is in flight. -/
def Stage.channel : Stage → Option Channel
  | .idle => none
  | .select c => some c
  | .reference c _ _ => some c
  | .sensor c _ _ _ => some c

namespace Converter

/-- Change the two channels of a bay. -/
def modBayChannels (b : Bay) (f : BayChannels → BayChannels) (c : Converter) : Converter :=
  { c with channels := c.channels.set b.val (f c.channels[b]) }

/-- Change one channel. -/
def modChannel (ch : Channel) (f : ChannelCtl → ChannelCtl) (c : Converter) : Converter :=
  c.modBayChannels ch.bay (BayChannels.mod ch.kind f)

/-- Countdown and due mark of a channel. -/
def channel (c : Converter) (ch : Channel) : ChannelCtl := c.channels[ch.bay].get ch.kind

/-- R75: the period of a kind. -/
def period (c : Converter) (k : ChannelKind) : Nat :=
  match k with
  | .fuel => c.fuelEvery
  | .probe => c.probeEvery

/-! ## Countdowns and due marks (R75, R76) -/

/-- R75: the countdown reaches 0: it is reloaded, and the channel is marked due unless a mark is present. -/
def expire (now : Round) (period : Nat) (c : ChannelCtl) : ChannelCtl :=
  { countdown := period, due := some (c.due.getD now) }

/-- R75: a channel of a SERVING bay at a round start. -/
def countDown (now : Round) (period : Nat) (c : ChannelCtl) : ChannelCtl :=
  if c.countdown = 0 then c
  else if c.countdown = 1 then expire now period c
  else { c with countdown := c.countdown - 1 }

/-- R76: a bay enters SERVING: both channels are marked due and their countdowns loaded. -/
def bayEnters (now : Round) (b : Bay) (c : Converter) : Converter :=
  c.modBayChannels b fun _ =>
    { fuel := { countdown := c.fuelEvery, due := some now }, probe := { countdown := c.probeEvery, due := some now } }

/-! ## The sweep (R80 to R84) -/

/-- R81: the sweep closes. -/
def closeSweep (c : Converter) : Converter := { c with sweep := none }

/-- R81, R78: the conversion of a channel begins: SELECT, its due mark and its spot entry removed. -/
def begin (ch : Channel) (rest : List Channel) (c : Converter) : Converter :=
  { c.modChannel ch (fun x => { x with due := none }) with
    stage := .select ch, sweep := some rest, spot := c.spot.erase ch, settle := Config.selectTicks }

/-- R81: with no conversion in flight, the head of the sweep list is tested against RESERVE_MS. -/
def takeNext (remaining : Nat) (c : Converter) : Converter :=
  match c.sweep with
  | none => { c with stage := .idle }
  | some [] => { c.closeSweep with stage := .idle }
  | some (ch :: rest) =>
    if remaining < c.reserveMs then { c.closeSweep with stage := .idle } else c.begin ch rest

/-- R80, tier 3: whether a due mark stands before another: the older due round, then PROBE before FUEL, then the lower
bay. -/
def dueBefore (now : Round) (c : Converter) (x y : Channel) : Bool :=
  match (c.channel x).due, (c.channel y).due with
  | some dx, some dy =>
    if age now dx = age now dy then
      match x.kind, y.kind with
      | .probe, .fuel => true
      | .fuel, .probe => false
      | .probe, .probe => x.bay.val < y.bay.val
      | .fuel, .fuel => x.bay.val < y.bay.val
    else age now dy < age now dx
  | some _, none => true
  | none, _ => false

/-- Every channel of a kind, in ascending bay order. -/
def channelsOf (k : ChannelKind) : List Channel := allBays.map (fun b => { bay := b, kind := k })

/-- R80, tier 3: the channels that carry a due mark, in order. -/
def dueList (now : Round) (c : Converter) : List Channel :=
  sortBy (dueBefore now c)
    ((channelsOf .probe ++ channelsOf .fuel).filter (fun x => (c.channel x).due.isSome))

/-- R80: the sweep list, for the bays whose records are HEATING. -/
def sweepList (now : Round) (heating : List Bay) (c : Converter) : List Channel :=
  let tiers := heating.map (fun b => ({ bay := b, kind := .probe } : Channel)) ++ c.spot ++ dueList now c
  tiers.eraseDups.filter (fun x => c.stage.channel != some x)

/-- R80, R82: a sweep start. With a conversion in flight the first conversion waits for its completion. -/
def sweepStart (now : Round) (remaining : Nat) (heating : List Bay) (c : Converter) : Converter :=
  let list := sweepList now heating c
  if list.isEmpty then c.closeSweep
  else match c.stage with
    | .idle => takeNext remaining { c with sweep := some list }
    | .select _ => { c with sweep := some list }
    | .reference _ _ _ => { c with sweep := some list }
    | .sensor _ _ _ _ => { c with sweep := some list }

/-- R76: a bay leaves SERVING: its due marks, spot entries and sweep entries are removed. -/
def removeBay (b : Bay) (c : Converter) : Converter :=
  { c.modBayChannels b (fun x =>
      { fuel := { x.fuel with due := none }, probe := { x.probe with due := none } }) with
    spot := c.spot.filter (fun x => x.bay != b), sweep := c.sweep.map (fun l => l.filter (fun x => x.bay != b)) }

/-- R76, R84: a bay leaves SERVING: a conversion in flight for it is abandoned, and the next head is taken at that
instant. -/
def bayLeaves (remaining : Nat) (b : Bay) (c : Converter) : Converter :=
  match c.stage.channel with
  | some ch => if ch.bay = b then (c.removeBay b).takeNext remaining else c.removeBay b
  | none => c.removeBay b

/-! ## The spot list (R78, R79) and settings (R77, R83) -/

/-- R79: a channel is appended to the spot list. -/
def appendSpot (ch : Channel) (c : Converter) : Converter := { c with spot := c.spot ++ [ch] }

/-- R77: a countdown above the new period is lowered to it. -/
def lower (period : Nat) (c : ChannelCtl) : ChannelCtl := { c with countdown := min c.countdown period }

/-- R77: SET FUEL_EVERY or PROBE_EVERY stores a period. -/
def setPeriod (k : ChannelKind) (v : Nat) (c : Converter) : Converter :=
  match k with
  | .fuel => { c with fuelEvery := v, channels := c.channels.map (BayChannels.mod .fuel (lower v)) }
  | .probe => { c with probeEvery := v, channels := c.channels.map (BayChannels.mod .probe (lower v)) }

/-! ## The stages (R68 to R72) -/

/-- R68, R69: the end of SELECT: REFERENCE begins with its counters loaded and the oscillator on the reference resistor. -/
def selectEnd (c : Converter) : Converter :=
  match c.stage with
  | .select ch =>
    { c with stage := .reference ch 0 Config.referenceLoad, settle := 0, phase := 0 }
  | .idle => c
  | .reference _ _ _ => c
  | .sensor _ _ _ _ => c

/-- R69, R70: SENSOR begins with T held, its counters loaded and the oscillator on the channel's network. -/
def enterSensor (ch : Channel) (t : Nat) (c : Converter) : Converter :=
  { c with stage := .sensor ch t t 0, phase := 0 }

/-- The part of a cycle gone, on a network that has come in place of another (log 17). -/
def onNewNetwork (before after : Nat) (c : Converter) : Converter := { c with phase := c.phase * after / before }

/-- R69: the ticks that REFERENCE has still to last: to the wrap of the cycle counter, which then stands at 0, or to the
timebase counter's limit. -/
def referenceTicks (c : Converter) (x : Oscillation) (timebase cycles : Nat) : Nat :=
  if cycles = 0 then 0
  else min (x.ticksFor c.phase (Config.counterSpan - cycles)) (Config.counterLimit - timebase)

/-- R70: the ticks that SENSOR has still to last: to the timebase count 0 or to the cycle counter's limit. -/
def sensorTicks (c : Converter) (x : Oscillation) (timebase cycles : Nat) : Nat :=
  min timebase (x.ticksFor c.phase (Config.counterLimit - cycles))

/-- R68 to R70: the converter runs `n` ticks of the timebase, its counters no further than the end of the stage: each
tick moves the timebase counter and each oscillator cycle the cycle counter. Neither counts in SELECT. -/
def run (o : Outside) (n : Nat) (c : Converter) : Converter :=
  match c.stage with
  | .idle => c
  | .select _ => { c with settle := c.settle - n }
  | .reference ch tb cy =>
    let x := o.onReference ch
    let k := min n (c.referenceTicks x tb cy)
    let counted := cy + x.cyclesIn c.phase k
    { c with
      stage := .reference ch (tb + k) (if counted < Config.counterSpan then counted else 0)
      phase := x.phaseAfter c.phase k }
  | .sensor ch t tb cy =>
    let x := o.onNetwork ch
    let k := min n (c.sensorTicks x tb cy)
    { c with
      stage := .sensor ch t (tb - k) (min Config.counterLimit (cy + x.cyclesIn c.phase k))
      phase := x.phaseAfter c.phase k }

/-- R69, R70: the counters run to the end of the stage, which comes within the span of the timebase counter. -/
def runOut (o : Outside) (c : Converter) : Converter := c.run o Config.counterSpan

end Converter

/-! ## The result of a conversion (R70 to R73) -/

/-- What a conversion hands to the chain that owns its kind. -/
inductive Reading where
  | resistance (r : Nat)
  | error (e : ErrorKind)
deriving DecidableEq, Repr

/-- R71: the FUEL result of a sensor count of 16 or more. -/
def fuelReading (n : Nat) : Reading :=
  let ch := divHalfUp Config.fuelScale n
  if Config.fuelHighAbove < ch then .error .high else .resistance (ch - Config.fuelSeries)

/-- R72: the PROBE result of a sensor count of 16 or more. -/
def probeReading (n : Nat) : Reading := .resistance (divHalfUp Config.probeScale n)

/-- R70: the sensor count judged. -/
def sensorReading (k : ChannelKind) (n : Nat) : Reading :=
  if Config.counterLimit ≤ n then .error .short
  else if n < Config.openBelow then .error .opened
  else match k with
    | .fuel => fuelReading n
    | .probe => probeReading n

end Sys2Proof.Machine
end

