-- ==== Sys2Proof/Machine/Flags.lean ====
section
/-! DEFINITION. The notice unit as the blocks report to it: raise, present and cease (R154 to R161), the delivery queue
and the waiting keys (R157, R158), and the ATTN line (R166). -/

namespace Sys2Proof.Machine

/-! ## Kinds and keys (Table 49, R155) -/

/-- The number of a kind at a bay, less one (Table 49). -/
def BayKind.index : BayKind → Fin 15
  | .parked => 0
  | .left => 1
  | .tagFail => 2
  | .tagConflict => 3
  | .tableFull => 4
  | .overcurrent => 5
  | .defrostEnd => 6
  | .defrostLate => 7
  | .defrostLong => 8
  | .probeFault => 9
  | .fuelLow => 10
  | .fuelDrop => 11
  | .senderFault => 12
  | .doorLong => 13
  | .doorGuard => 14

/-- The kind of a key. -/
def Key.kind : Key → Kind
  | .bay k _ => .bay k
  | .feederSag => .feederSag

/-- A kind's number less one (Table 49). -/
def Kind.index : Kind → Fin 16
  | .bay k => k.index.castSucc
  | .feederSag => 15

/-- The place of a key's slot in the notice table: kinds by number, bays ascending within a kind, ROW last (R155). -/
def Key.index : Key → Fin 241
  | .bay k b => ⟨k.index.val * 16 + b.val, by omega⟩
  | .feederSag => 240

/-- Table 49: whether a kind is a condition; the others are events. -/
def BayKind.isCondition : BayKind → Bool
  | .tagFail | .tagConflict | .tableFull | .overcurrent | .probeFault | .fuelLow | .fuelDrop | .senderFault => true
  | .doorLong => true
  | .parked | .left | .defrostEnd | .defrostLate | .defrostLong | .doorGuard => false

/-- Table 49: whether a kind is a condition. -/
def Kind.isCondition : Kind → Bool
  | .bay k => k.isCondition
  | .feederSag => true

/-- The keys of a kind in ascending position order. -/
def Kind.keys : Kind → List Key
  | .bay k => allBays.map (Key.bay k)
  | .feederSag => [.feederSag]

/-- Every key, by kind number and then by position. -/
def allKeys : List Key := bayKinds.flatMap (fun k => allBays.map (Key.bay k)) ++ [.feederSag]

namespace Notices

/-- The slot of a key. -/
def slot (n : Notices) (k : Key) : Slot := n.slots[k.index]

/-- Put the slot of a key. -/
def putSlot (k : Key) (v : Slot) (n : Notices) : Notices := { n with slots := n.slots.set k.index.val v }

/-- The route of a kind. -/
def route (n : Notices) (k : Kind) : Route := n.routes[k.index]

/-- Put the route of a kind. -/
def putRoute (k : Kind) (r : Route) (n : Notices) : Notices := { n with routes := n.routes.set k.index.val r }

/-- R166: ATTN is asserted exactly while the delivery queue holds a key. -/
def setQueue (q : List Key) (n : Notices) : Notices := { n with queue := q, attn := !q.isEmpty }

/-! ## The delivery queue and the waiting keys (R157, R158) -/

/-- The raise information of a RAISED slot. -/
def raisedInfo (n : Notices) (k : Key) : Option RaiseInfo :=
  match (n.slot k).delivery with
  | .raised info _ _ => some info
  | .idle => none
  | .taken _ => none
  | .acked _ => none

/-- Whether a key of the queue has class HIGH at its raise (R157). -/
def isHigh (n : Notices) (k : Key) : Bool :=
  match n.raisedInfo k with
  | some info => info.cls == .high
  | none => false

/-- R157: a key enters directly behind the last key of its own class. -/
def enter (k : Key) (n : Notices) : Notices :=
  if n.isHigh k then n.setQueue (n.queue.takeWhile n.isHigh ++ k :: n.queue.dropWhile n.isHigh)
  else n.setQueue (n.queue ++ [k])

/-- R158: the raise information of a waiting key, RAISED with queued false. -/
def waitingInfo (n : Notices) (k : Key) : Option RaiseInfo :=
  match (n.slot k).delivery with
  | .raised info _ false => some info
  | .raised _ _ true => none
  | .idle => none
  | .taken _ => none
  | .acked _ => none

/-- R158, keys of order 1 and 2: whether a raise stands before another. Kind number and position (3 and 4) are the order
of `allKeys`. -/
def raisedBefore (now : Round) (a b : RaiseInfo) : Bool :=
  match a.cls, b.cls with
  | .high, .low => true
  | .low, .high => false
  | .high, .high => age now b.round < age now a.round
  | .low, .low => age now b.round < age now a.round

/-- R158: the better of a best key so far and the next key of `allKeys`. -/
def betterWaiting (now : Round) (n : Notices) (best : Option (Key × RaiseInfo)) (k : Key) : Option (Key × RaiseInfo) :=
  match n.waitingInfo k, best with
  | none, _ => best
  | some info, none => some (k, info)
  | some info, some (k', info') => if raisedBefore now info info' then some (k, info) else some (k', info')

/-- R158: the waiting key that is taken into a place come free. -/
def firstWaiting (now : Round) (n : Notices) : Option Key :=
  (allKeys.foldl (betterWaiting now n) none).map (·.1)

/-- Mark a RAISED slot queued. -/
def markQueued (k : Key) (n : Notices) : Notices :=
  match (n.slot k).delivery with
  | .raised info reps _ => n.putSlot k { n.slot k with delivery := .raised info reps true }
  | .idle => n
  | .taken _ => n
  | .acked _ => n

/-- R158: a place has come free; one waiting key, if there is one, is taken into it. -/
def refill (now : Round) (n : Notices) : Notices :=
  match n.firstWaiting now with
  | some k => (n.markQueued k).enter k
  | none => n

/-- R157: a key leaves the queue, and the place it frees is filled (R158). -/
def leaveQueue (now : Round) (k : Key) (n : Notices) : Notices :=
  (n.setQueue (n.queue.erase k)).refill now

/-! ## Reports (R159 to R161) -/

/-- A slot becomes RAISED (R159, R160): its key enters the queue, or waits if the queue is full (R157). -/
def becomeRaised (now : Round) (k : Key) (repeats : Option Nat) (n : Notices) : Notices :=
  let info : RaiseInfo := { round := now, cls := (n.route k.kind).cls }
  if n.queue.length < Config.deliveryCapacity then
    (n.putSlot k { n.slot k with delivery := .raised info repeats true }).enter k
  else n.putSlot k { n.slot k with delivery := .raised info repeats false }

/-- Store the trailer number and value reported (R159, R160). -/
def store (k : Key) (trailer : Option TrailerNo) (value : Option NoticeValue) (n : Notices) : Notices :=
  n.putSlot k { n.slot k with trailer := trailer, value := value }

/-- R159: a raise report of an event. -/
def raise (now : Round) (k : Key) (trailer : Option TrailerNo) (value : Option NoticeValue) (n : Notices) : Notices :=
  if (n.route k.kind).masked then n
  else match (n.slot k).delivery with
    | .idle => (n.store k trailer value).becomeRaised now k (some 1)
    | .raised info reps queued =>
      n.putSlot k { n.slot k with
        delivery := .raised info (reps.map (bump Config.repeatMax)) queued, trailer := trailer, value := value }
    | .taken _ => n
    | .acked _ => n

/-- R160: a present report of a condition. -/
def present (now : Round) (k : Key) (trailer : Option TrailerNo) (value : Option NoticeValue) (n : Notices) : Notices :=
  let held := n.putSlot k { n.slot k with present := true, trailer := trailer, value := value }
  match (n.slot k).delivery with
  | .idle => if (n.route k.kind).masked then held else held.becomeRaised now k none
  | .raised _ _ _ => held
  | .taken _ => held
  | .acked _ => held

/-- A RAISED slot is withdrawn (R161, R164): it becomes IDLE, and its key leaves the queue or the waiting keys. -/
def withdraw (now : Round) (k : Key) (n : Notices) : Notices :=
  match (n.slot k).delivery with
  | .raised _ _ true => (n.putSlot k { n.slot k with delivery := .idle }).leaveQueue now k
  | .raised _ _ false => n.putSlot k { n.slot k with delivery := .idle }
  | .idle => n
  | .taken _ => n
  | .acked _ => n

/-- R161: a cease report of a condition. -/
def cease (now : Round) (k : Key) (n : Notices) : Notices :=
  let gone := n.putSlot k { n.slot k with present := false }
  match (n.slot k).delivery with
  | .raised _ _ _ => gone.withdraw now k
  | .acked _ => gone.putSlot k { gone.slot k with delivery := .idle }
  | .taken _ => gone
  | .idle => gone

end Notices

/-! ## Reports as operations on the part -/

/-- A raise of an event at the current round. -/
def raiseAt (k : BayKind) (b : Bay) (trailer : Option TrailerNo) (value : Option NoticeValue) (s : State) : State :=
  s.modNotices (Notices.raise s.timer.number (.bay k b) trailer value)

/-- A present report of a condition at a bay. -/
def presentAt (k : BayKind) (b : Bay) (trailer : Option TrailerNo) (value : Option NoticeValue) (s : State) : State :=
  s.modNotices (Notices.present s.timer.number (.bay k b) trailer value)

/-- A cease report of a condition at a bay. -/
def ceaseAt (k : BayKind) (b : Bay) (s : State) : State :=
  s.modNotices (Notices.cease s.timer.number (.bay k b))

/-- A cease report, made only when the condition is present: a source reports only a change of presence (R154). -/
def ceaseIf (present : Bool) (k : BayKind) (b : Bay) (s : State) : State :=
  if present then ceaseAt k b s else s

end Sys2Proof.Machine
end

