-- ==== Sys2Proof/Machine/Defrost.lean ====
section
/-! DEFINITION. The defrost cycle of a record (R108 to R125): its clock at a round start, grants, ends of heating, the
return to WAITING, and the meanings of the rows that are parts of a round start. -/

namespace Sys2Proof.Machine

/-- Change a record's defrost figures. -/
def Record.modDefrost (f : DefrostFigures → DefrostFigures) (r : Record) : Record := { r with defrost := f r.defrost }

/-- R114: the value an interval count is reloaded with. -/
def Record.intervalLoad (r : Record) : Nat := r.settings.interval * Config.intervalUnit

/-! ## Leaving HEATING -/

/-- R139: a bay's entry leaves the grant list; nothing else of the arbiter changes. -/
def Feeder.release (b : Bay) (f : Feeder) : Feeder := { f with grants := f.grants.filter (fun g => g.bay != b) }

/-- R120: a HEATING record returns to WAITING with its granted class, and the permit goes off. A record in another state
is untouched. -/
def heatingToWaiting (b : Bay) (s : State) : State :=
  match s.recordAt b with
  | none => s
  | some r =>
    match r.defrost.state with
    | .heating g =>
      (s.modParked b (Record.modDefrost fun d => { d with state := .waiting g })).setHeat b false
    | .idle => s
    | .waiting _ => s
    | .dripping => s

/-- R46, R120: the record's side of its bay leaving SERVING for FAULT or DISABLED; the grant is released (R139). -/
def defrostLeavesServing (b : Bay) (s : State) : State :=
  (heatingToWaiting b s).modFeeder (Feeder.release b)

/-- R117: the figures after an end of heating: completed defrosts count it, and DRIPPING or IDLE follows. -/
def Record.afterHeating (r : Record) : DefrostFigures :=
  let done := bump Config.counterMax r.defrost.completed
  if r.settings.drip = 0 then
    { r.defrost with state := .idle, completed := done, intervalCount := r.intervalLoad }
  else { r.defrost with state := .dripping, completed := done, dripCount := r.settings.drip }

/-- R117: every end of heating of the record `r` parked at bay `b`: the grant is released, the permit goes off, the
record moves on, and DEFROST_END is raised with the heat rounds. -/
def endHeating (b : Bay) (r : Record) (s : State) : State :=
  raiseAt .defrostEnd b (some r.number) (some (.rounds r.defrost.heatRounds))
    (((s.modFeeder (Feeder.release b)).setHeat b false).modParked b (Record.modDefrost fun _ => r.afterHeating))

/-! ## The round start at a record (R114 to R121) -/

/-- R114: whether the interval clock counts at this round start. -/
def clockRuns (mode : ClockMode) (run : RunState) : Bool :=
  match mode, run with
  | .wall, _ => true
  | .run, .running => true
  | .run, .stopped => false
  | .run, .unknown => false

/-- R114: an expiry in IDLE: WAITING with class NORMAL, the count reloaded, no notice. -/
def expireIdle (b : Bay) (r : Record) (s : State) : State :=
  s.modParked b (Record.modDefrost fun d => { d with state := .waiting .normal, intervalCount := r.intervalLoad })

/-- R115: an expiry in WAITING: class URGENT, the count reloaded, DEFROST_LATE raised. -/
def expireWaiting (b : Bay) (r : Record) (s : State) : State :=
  raiseAt .defrostLate b (some r.number) none
    (s.modParked b (Record.modDefrost fun d => { d with state := .waiting .urgent, intervalCount := r.intervalLoad }))

/-- R119: an end by maximum at heat rounds `n`: DEFROST_LONG first, then the end of R117. -/
def expireHeating (b : Bay) (r : Record) (n : Nat) (s : State) : State :=
  let counted := r.modDefrost fun d => { d with heatRounds := n }
  endHeating b counted (raiseAt .defrostLong b (some r.number) (some (.rounds n)) s)

/-- R121: the end of a drip: IDLE, the interval count reloaded. -/
def expireDrip (b : Bay) (r : Record) (s : State) : State :=
  s.modParked b (Record.modDefrost fun d =>
    { d with state := .idle, dripCount := 0, intervalCount := r.intervalLoad })

/-- R114, R115, R119, R121: the one defrost count that a round start advances at the record parked at bay `b`. -/
def defrostRound (b : Bay) (s : State) : State :=
  match s.recordAt b with
  | none => s
  | some r =>
    match r.defrost.state with
    | .idle =>
      if clockRuns r.settings.clockMode s.doors[b].run then
        if r.defrost.intervalCount ≤ 1 then expireIdle b r s
        else s.modParked b (Record.modDefrost fun d => { d with intervalCount := d.intervalCount - 1 })
      else s
    | .waiting _ =>
      if clockRuns r.settings.clockMode s.doors[b].run then
        if r.defrost.intervalCount ≤ 1 then expireWaiting b r s
        else s.modParked b (Record.modDefrost fun d => { d with intervalCount := d.intervalCount - 1 })
      else s
    | .heating _ =>
      if r.settings.maxHeat ≤ r.defrost.heatRounds + 1 then expireHeating b r (r.defrost.heatRounds + 1) s
      else s.modParked b (Record.modDefrost fun d => { d with heatRounds := d.heatRounds + 1 })
    | .dripping =>
      if r.defrost.dripCount ≤ 1 then expireDrip b r s
      else s.modParked b (Record.modDefrost fun d => { d with dripCount := d.dripCount - 1 })

/-! ## Rows that are parts of a round start (log 8)

Each takes the round-start work of one bay's record when the count stands one step from its end, and nothing otherwise. -/

/-- INTERVAL_EXPIRY (R114). -/
def intervalExpiryAt (b : Bay) (s : State) : State :=
  match s.recordAt b with
  | none => s
  | some r =>
    match r.defrost.state with
    | .idle =>
      if clockRuns r.settings.clockMode s.doors[b].run && decide (r.defrost.intervalCount ≤ 1) then expireIdle b r s
      else s
    | .waiting _ => s
    | .heating _ => s
    | .dripping => s

/-- EXPIRY_IN_WAITING (R115). -/
def expiryInWaitingAt (b : Bay) (s : State) : State :=
  match s.recordAt b with
  | none => s
  | some r =>
    match r.defrost.state with
    | .waiting _ =>
      if clockRuns r.settings.clockMode s.doors[b].run && decide (r.defrost.intervalCount ≤ 1) then expireWaiting b r s
      else s
    | .idle => s
    | .heating _ => s
    | .dripping => s

/-- END_BY_MAXIMUM (R119). -/
def endByMaximumAt (b : Bay) (s : State) : State :=
  match s.recordAt b with
  | none => s
  | some r =>
    match r.defrost.state with
    | .heating _ =>
      if r.settings.maxHeat ≤ r.defrost.heatRounds + 1 then expireHeating b r (r.defrost.heatRounds + 1) s else s
    | .idle => s
    | .waiting _ => s
    | .dripping => s

/-- DRIP_END (R121). -/
def dripEndAt (b : Bay) (s : State) : State :=
  match s.recordAt b with
  | none => s
  | some r =>
    match r.defrost.state with
    | .dripping => if r.defrost.dripCount ≤ 1 then expireDrip b r s else s
    | .idle => s
    | .waiting _ => s
    | .heating _ => s

/-- The meaning of INTERVAL_EXPIRY. -/
def execIntervalExpiry (b : Bay) (s : State) : Host.Outcome State Fault Refusal := whenRunning s (intervalExpiryAt b)

/-- The meaning of EXPIRY_IN_WAITING. -/
def execExpiryInWaiting (b : Bay) (s : State) : Host.Outcome State Fault Refusal := whenRunning s (expiryInWaitingAt b)

/-- The meaning of END_BY_MAXIMUM. -/
def execEndByMaximum (b : Bay) (s : State) : Host.Outcome State Fault Refusal := whenRunning s (endByMaximumAt b)

/-- The meaning of DRIP_END. -/
def execDripEnd (b : Bay) (s : State) : Host.Outcome State Fault Refusal := whenRunning s (dripEndAt b)

end Sys2Proof.Machine
end

