-- ==== Sys2Proof/Machine/Reader.lean ====
section
/-! DEFINITION. The tag reader's own state (R55 to R65): the identify queue, attempts, the assembly of the frame and its
check byte. What a delivered outcome does is in Bays.lean and Tags.lean. -/

namespace Sys2Proof.Machine

namespace Reader

/-! ## Where the read of the head stands in time (log 23) -/

/-- The instant at which the read of the head stands: that of the time base, and further on where rows have brought it
ahead. -/
def instant (now : Nat) (r : Reader) : Nat := now + r.ahead

/-- The read of the head comes to an instant, unless it stands there already or behind it. -/
def bringTo (now at' : Nat) (r : Reader) : Reader := { r with ahead := max r.ahead (at' - now) }

/-! ## The queue (R56, R57, R64) -/

/-- R58: an attempt begins in phase WAKE. -/
def beginAttempt (number start : Nat) (r : Reader) : Reader := { r with state := .attempt number start .wake }

/-- R57: the first attempt on the head begins, at once. -/
def beginRead (now : Nat) (r : Reader) : Reader := { r.beginAttempt 1 now with ahead := 0 }

/-- R57: the reader has become free: the first attempt of the new head begins at once, or the reader is IDLE. -/
def takeHead (now : Nat) (r : Reader) : Reader :=
  match r.queue with
  | [] => { r with state := .idle, ahead := 0 }
  | _ :: _ => r.beginRead now

/-- R56, R57: a bay joins the tail; with the reader IDLE its first attempt begins at once. -/
def append (now : Nat) (b : Bay) (r : Reader) : Reader :=
  let queued := { r with queue := r.queue ++ [b] }
  match r.state with
  | .idle => queued.beginRead now
  | .attempt _ _ _ => queued
  | .spacing _ _ => queued

/-- R53, R64: a bay leaves the queue without an outcome; the read of a head is abandoned. -/
def remove (now : Nat) (b : Bay) (r : Reader) : Reader :=
  match r.queue with
  | [] => r
  | head :: rest =>
    if head = b then Reader.takeHead now { r with queue := rest } else { r with queue := head :: rest.erase b }

/-- R63: the head's outcome is delivered and the head leaves the queue. -/
def deliver (now : Nat) (r : Reader) : Reader := Reader.takeHead now { r with queue := r.queue.tail }

/-! ## An attempt (R58 to R60) -/

/-- R58: the end of the wake pulse, 500 us into the attempt. -/
def wakeEnd (now : Nat) (r : Reader) : Reader :=
  match r.state with
  | .attempt n start .wake =>
    { r with state := .attempt n start .presence }.bringTo now (start + Config.wakePulse)
  | .attempt _ _ .presence => r
  | .attempt _ _ (.bits _ _ _ _ _) => r
  | .idle => r
  | .spacing _ _ => r

/-- R58: whether an answer of the tag can still be recognised: the presence window has not closed. -/
def recognises (now : Nat) (r : Reader) : Bool :=
  match r.state with
  | .attempt _ start .presence => decide (r.instant now ≤ start + Config.presenceClose)
  | .attempt _ _ .wake => false
  | .attempt _ _ (.bits _ _ _ _ _) => false
  | .idle => false
  | .spacing _ _ => false

/-- R58, R60: presence is recognised, at the opening of the window or later, and slot 0 begins: bit counter 0, shift byte
zeros, no byte stored. -/
def presenceSeen (now : Nat) (r : Reader) : Reader :=
  match r.state with
  | .attempt n start .presence =>
    let seen := r.bringTo now (start + Config.presenceOpen)
    { seen with state := .attempt n start (.bits (seen.instant now) 0 0 0 []) }
  | .attempt _ _ .wake => r
  | .attempt _ _ (.bits _ _ _ _ _) => r
  | .idle => r
  | .spacing _ _ => r

/-- R60: a sampled bit enters the shift byte at its most significant place. -/
def shiftIn (high : Bool) (shift : Byte) : Byte := (shift >>> 1) ||| (if high then 0x80 else 0x00)

/-- R59: slot k begins where slot k - 1 ends, so the slot number at an instant follows from the instant slot 0 began; the
last slot is 39. -/
def slotAt (began at' : Nat) : Nat := min (Config.slotCount - 1) ((at' - began) / Config.slotLength)

/-- R59: the sample instant of the slot that follows a number of samples, 60 us into that slot. -/
def sampleInstant (began samples : Nat) : Nat := began + Config.slotLength * samples + Config.slotSample

/-- R59: the end of slot 39. -/
def lastSlotEnd (began : Nat) : Nat := began + Config.slotLength * Config.slotCount

/-- R59: in phase BITS the slot has begun that the instant of the read lies in. -/
def tick (now : Nat) (r : Reader) : Reader :=
  match r.state with
  | .attempt n start (.bits began _ count shift bytes) =>
    { r with state := .attempt n start (.bits began (slotAt began (r.instant now)) count shift bytes) }
  | .attempt _ _ .wake => r
  | .attempt _ _ .presence => r
  | .idle => r
  | .spacing _ _ => r

/-- R60: a sample in phase BITS enters the shift byte, which is stored as the next byte when the bit counter wraps. -/
def storeBit (high : Bool) (r : Reader) : Reader :=
  match r.state with
  | .attempt n start (.bits began slot count shift bytes) =>
    let shifted := shiftIn high shift
    if count = 7 then { r with state := .attempt n start (.bits began slot 0 shifted (bytes ++ [shifted])) }
    else { r with state := .attempt n start (.bits began slot (count + 1) shifted bytes) }
  | .attempt _ _ .wake => r
  | .attempt _ _ .presence => r
  | .idle => r
  | .spacing _ _ => r

/-- R59: the sample instant of the slot that has not been sampled, while one of the forty has not. -/
def nextSample (r : Reader) : Option Nat :=
  match r.state with
  | .attempt _ _ (.bits began _ count _ bytes) =>
    if 5 ≤ bytes.length then none else some (sampleInstant began (8 * bytes.length + count.toNat))
  | .attempt _ _ .wake => none
  | .attempt _ _ .presence => none
  | .idle => none
  | .spacing _ _ => none

/-- R59, R60: the sample of a slot at its instant. -/
def sampleBit (now at' : Nat) (high : Bool) (r : Reader) : Reader :=
  Reader.tick now (storeBit high (r.bringTo now at'))

/-- R58, R59, R65: whether the part looks at the head's tag line at this instant: at every microsecond of the presence
window, and at the sample instant of the slot that has not been sampled. -/
def looks (now : Nat) (r : Reader) : Bool :=
  match r.state with
  | .attempt _ start .presence => decide (start + Config.presenceOpen ≤ r.instant now) && r.recognises now
  | .attempt _ _ (.bits _ _ _ _ _) => r.nextSample.any (fun at' => decide (at' ≤ r.instant now))
  | .attempt _ _ .wake => false
  | .idle => false
  | .spacing _ _ => false

/-! ## The judgement (R61, R62) -/

/-- R61: the check register after one number bit. -/
def checkBit (reg : Byte) (bit : Bool) : Byte :=
  let shifted := reg <<< 1
  if bit != reg.getLsbD 7 then shifted ^^^ 0x07 else shifted

/-- R61: the check register after the eight bits of a byte, bit 0 first. -/
def checkByteStep (reg : Byte) (b : Byte) : Byte :=
  [0, 1, 2, 3, 4, 5, 6, 7].foldl (fun c i => checkBit c (b.getLsbD i)) reg

/-- R61: the expected check byte of the number bytes, in the order received. -/
def checkByte (bytes : List Byte) : Byte := bytes.foldl checkByteStep 0

/-- R60: the trailer number of bytes 0 to 3, least significant first. -/
def frameNumber (b0 b1 b2 b3 : Byte) : TrailerNo := b3 ++ b2 ++ b1 ++ b0

/-- R62: the judgement of the five bytes of a frame: a trailer number, or none where a check fails. -/
def judge (bytes : List Byte) : Option TrailerNo :=
  match bytes with
  | [b0, b1, b2, b3, b4] =>
    if b4 = checkByte [b0, b1, b2, b3] then
      if frameNumber b0 b1 b2 b3 = 0 then none else some (frameNumber b0 b1 b2 b3)
    else none
  | _ => none

/-! ## Spacing and the line (R63, R65) -/

/-- R63: the reader waits for the next attempt on the head bay. -/
def enterSpacing (number start : Nat) (r : Reader) : Reader := { r with state := .spacing number start }

/-- R63: the spacing ends: the next attempt begins, 50 ms after the start of the one that failed (log 25). -/
def spacingEnd (now : Nat) (r : Reader) : Reader :=
  match r.state with
  | .spacing n start =>
    (r.beginAttempt (n + 1) (start + Config.attemptSpacing)).bringTo now (start + Config.attemptSpacing)
  | .idle => r
  | .attempt _ _ _ => r

/-- R58, R59, R62, R63, R65: the event of the reader whose instant has come, with the head's tag line at a level: the end
of the wake pulse, presence at the first microsecond of its window that sees the line low or the close of the window,
the sample of a slot or, behind forty of them, the end of slot 39, and the end of the spacing. -/
def due (now : Nat) (high : Bool) (r : Reader) : Option Instr :=
  match r.state with
  | .attempt _ start .wake => if start + Config.wakePulse ≤ r.instant now then some .wakeEnd else none
  | .attempt _ start .presence =>
    if r.looks now && !high then some .presenceSeen
    else if start + Config.presenceClose ≤ r.instant now then some .presenceWindowClose else none
  | .attempt _ _ (.bits began _ _ _ bytes) =>
    if r.looks now then some (.bitSlotSample high)
    else if 5 ≤ bytes.length ∧ lastSlotEnd began ≤ r.instant now then some .attemptJudged else none
  | .spacing _ start => if start + Config.attemptSpacing ≤ r.instant now then some .spacingEnd else none
  | .idle => none

/-- R65: whether the part drives a bay's tag line low: the head's line in WAKE and in the first 20 us of each bit slot. -/
def drivesLow (now : Nat) (b : Bay) (r : Reader) : Bool :=
  r.queue.head? == some b &&
    match r.state with
    | .attempt _ _ .wake => true
    | .attempt _ _ (.bits began _ _ _ _) =>
      decide (r.instant now < lastSlotEnd began) &&
        decide ((r.instant now - began) % Config.slotLength < Config.slotDrive)
    | .attempt _ _ .presence => false
    | .idle => false
    | .spacing _ _ => false

end Reader

/-- R65: whether a bay's tag line is driven low. -/
def State.tagLineDriven (s : State) (b : Bay) : Bool := s.reader.drivesLow s.timer.timeUs b

/-- R65: whether the part looks at a bay's tag line at this instant: at the head's alone. -/
def State.tagLineSampled (s : State) (b : Bay) : Bool :=
  s.reader.queue.head? == some b && s.reader.looks s.timer.timeUs

end Sys2Proof.Machine
end

