-- ==== Sys2Proof/Machine/Bays.lean ====
section
/-! DEFINITION. The bay controllers (R36 to R53) and the trailer table's work at a bay (R6 to R16): entering and leaving
SERVING, holding, parking, departing, the match of a tag outcome, connect and disconnect. -/

namespace Sys2Proof.Machine

/-! ## Bay states -/

/-- A bay state other than SERVING: power off, power good false, no wait (R42, R43). -/
def BayCtl.become (st : BayState) (b : BayCtl) : BayCtl :=
  { b with state := st, powerOn := false, powerGood := false, wait := none }

/-- R41, R43: SERVING: power on, and the power-good wait begins with POWER_GOOD_MS; one of 0 ends at the entry. -/
def BayCtl.serve (powerGoodMs : Nat) (b : BayCtl) : BayCtl :=
  { b with
    state := .serving, powerOn := true, powerGood := decide (powerGoodMs = 0),
    wait := if powerGoodMs = 0 then none else some powerGoodMs }

/-- R41: an entry to SERVING, which passes on to FAULT while the over-current state is TRIPPED (R47). -/
def enterServing (b : Bay) (s : State) : State :=
  match s.doors[b].ovc with
  | .clear =>
    (s.modBay b (BayCtl.serve s.powerGoodMs)).modConverter (Converter.bayEnters s.timer.number b)
  | .tripped => presentAt .overcurrent b (s.trailerAt b) none (s.modBay b (BayCtl.become .fault))

/-- R45, R49, R76, R84: what ends in the converter when a bay leaves SERVING. -/
def converterLeaves (b : Bay) (s : State) : State :=
  s.modConverter (Converter.bayLeaves s.timer.remaining b)

/-- R45: an over-current trip at a SERVING bay. -/
def trip (b : Bay) (s : State) : State :=
  defrostLeavesServing b (converterLeaves b
    (presentAt .overcurrent b (s.trailerAt b) none (s.modBay b (BayCtl.become .fault))))

/-- R48: CLEAR_FAULT's effect. -/
def clearFault (b : Bay) (s : State) : State := enterServing b (ceaseAt .overcurrent b s)

/-- R43: the power-good wait of a bay ends; with no wait running it does not. -/
def powerGoodWaitEnd (b : Bay) (s : State) : State :=
  match s.bays[b].wait with
  | some _ => s.modBay b (fun x => { x with powerGood := true, wait := none })
  | none => s

/-- The meaning of POWER_GOOD_WAIT_END. -/
def execPowerGoodWaitEnd (b : Bay) (s : State) : Host.Outcome State Fault Refusal := whenRunning s (powerGoodWaitEnd b)

/-! ## Held bays (R13, R14, R40) -/

/-- R14: the condition of a held reason. -/
def Held.kind : Held → BayKind
  | .tagFail => .tagFail
  | .conflict _ => .tagConflict
  | .tableFull _ => .tableFull

/-- R36, R40: the held tag. -/
def Held.tag : Held → Option TrailerNo
  | .tagFail => none
  | .conflict t => some t
  | .tableFull t => some t

/-- R14: leaving HELD by any path ends the held condition. -/
def ceaseHeld (b : Bay) (s : State) : State :=
  match s.bays[b].state with
  | .held h => ceaseAt h.kind b s
  | .empty => s
  | .identifying => s
  | .serving => s
  | .fault => s
  | .disabled => s

/-- R12, R13, R15: the bay becomes HELD for a reason, giving up a former one; staying HELD for the same reason reports
nothing. -/
def hold (b : Bay) (h : Held) (s : State) : State :=
  if s.bays[b].state = .held h then s
  else presentAt h.kind b none (h.tag.map .tag) ((ceaseHeld b s).modBay b (BayCtl.become (.held h)))

/-! ## Records (R3, R6) -/

/-- Table 6: the defaults. -/
def Settings.default : Settings :=
  { fuelCurve := some 0, probeCurve := some 4, heaterLoad := 2, interval := 6, clockMode := .wall, termination := 120,
    maxHeat := 2700, drip := 120, lowFuel := 400, dropThreshold := 100, doorRunning := 300, doorStopped := 1800 }

/-- R6: a record as it is created. -/
def Record.create (number : TrailerNo) (origin : Origin) (settings : Settings) : Record :=
  { number := number, origin := origin, place := .booked, settings := settings,
    fuel := { lastResistance := none, lastLevel := none, filtered := none, baseline := none, lastRound := none,
              errorRun := 0, lastError := .none },
    probe := { lastResistance := none, coil := none, errorRun := 0, lastError := .none },
    defrost := { state := .idle, intervalCount := settings.interval * Config.intervalUnit, heatRounds := 0,
                 dripCount := 0, completed := 0 },
    door := .unwatched }

/-- R8, R9: the record's side of entering PARKED. -/
def Record.park (b : Bay) (now : Round) (door : DoorFigures) (r : Record) : Record :=
  { r with
    place := .parked b now
    fuel := { r.fuel with filtered := none, baseline := none, errorRun := 0 }
    probe := { r.probe with coil := none, errorRun := 0 }
    defrost := { r.defrost with state := .idle, intervalCount := r.intervalLoad, heatRounds := 0, dripCount := 0 }
    door := door }

/-- R8: the record `r`, standing in slot `i`, enters PARKED at bay `b`. The held condition the bay carried ceases
first (log 13); PARKED is raised before the entry to SERVING is judged (R41). -/
def park (i : SlotIx) (r : Record) (b : Bay) (s : State) : State :=
  enterServing b
    (raiseAt .parked b (some r.number) (some (.origin r.origin))
      ((((ceaseHeld b s).putSlot i (some (r.park b s.timer.number s.doors[b].figures)))).modBay b
        (fun x => { x with ref := some i })))

/-- R10: the record's side of departing. -/
def Record.depart (b : Bay) (now : Round) (r : Record) : Record :=
  { r with
    place := match r.place with
      | .parked _ since => .departed b since now
      | .booked => .departed b now now
      | .departed _ since _ => .departed b since now
    defrost := { r.defrost with state := .idle, dripCount := 0 } }

/-- R10: the record parked at a disconnected bay enters DEPARTED: a grant is released without DEFROST_END, the permit
goes off, the reference is cleared, and LEFT is raised. -/
def depart (b : Bay) (s : State) : State :=
  match s.recordAt b with
  | none => s
  | some r =>
    raiseAt .left b (some r.number) none
      ((((s.modParked b (Record.depart b s.timer.number)).modFeeder (Feeder.release b)).setHeat b false).modBay b
        (fun x => { x with ref := none }))

/-! ## The match of a tag outcome (R12, R13, R15) -/

/-- R12, R15: the decision on the trailer number `n` at bay `b`, on the table as it stands. A bay already HELD for a
full table that finds no slot again stays as it is (R15). -/
def matchNumber (b : Bay) (n : TrailerNo) (s : State) : State :=
  match s.slotOf n with
  | some i =>
    match s.table[i] with
    | some r =>
      match r.place with
      | .parked _ _ => hold b (.conflict n) s
      | .booked => park i r b s
      | .departed _ _ _ => park i r b s
    | none => s
  | none =>
    match s.freeSlot with
    | some i => park i (Record.create n .unbooked .default) b s
    | none => hold b (.tableFull n) s

/-- R15: the round-start retry of a bay HELD for a full table. -/
def retry (b : Bay) (s : State) : State :=
  match s.bays[b].state with
  | .held (.tableFull n) => matchNumber b n s
  | .held .tagFail => s
  | .held (.conflict _) => s
  | .empty => s
  | .identifying => s
  | .serving => s
  | .fault => s
  | .disabled => s

/-! ## Disabling and enabling (R49, R51) -/

/-- R53, R64: an IDENTIFYING bay leaves the reader. -/
def readerLeaves (b : Bay) (s : State) : State := s.modReader (Reader.remove s.timer.timeUs b)

/-- R56: the bay becomes IDENTIFYING and joins the identify queue. -/
def identify (b : Bay) (s : State) : State :=
  (s.modBay b (BayCtl.become .identifying)).modReader (Reader.append s.timer.timeUs b)

/-- R49: BAY_DISABLE's effect. -/
def disable (b : Bay) (s : State) : State :=
  match s.bays[b].state with
  | .disabled => s
  | .empty => s.modBay b (BayCtl.become .disabled)
  | .identifying => readerLeaves b (s.modBay b (BayCtl.become .disabled))
  | .held _ => (ceaseHeld b s).modBay b (BayCtl.become .disabled)
  | .serving => defrostLeavesServing b (converterLeaves b (s.modBay b (BayCtl.become .disabled)))
  | .fault => (ceaseAt .overcurrent b s).modBay b (BayCtl.become .disabled)

/-- R51: BAY_ENABLE's effect. -/
def enable (b : Bay) (s : State) : State :=
  match s.bays[b].state with
  | .disabled =>
    match s.bays[b].ref with
    | some _ => enterServing b s
    | none => if s.bays[b].connected then identify b s else s.modBay b (BayCtl.become .empty)
  | .empty => s
  | .identifying => s
  | .held _ => s
  | .serving => s
  | .fault => s

/-! ## Connect and disconnect (R38, R52) -/

/-- R38, R143: a connect: the door watch begins afresh; an EMPTY bay is identified. A bay already CONNECTED meets no
connect (R37). -/
def connect (b : Bay) (s : State) : State :=
  if s.bays[b].connected then s
  else
    let seen := (s.modBay b (fun x => { x with connected := true, differing := 0 })).modDoor b (fun _ => .unwatched)
    match s.bays[b].state with
    | .empty => identify b seen
    | .disabled => seen
    | .identifying => seen
    | .held _ => seen
    | .serving => seen
    | .fault => seen

/-- R52: every condition of the position ceases, in the order of R52; a report is made of each one present. -/
def ceaseAll (b : Bay) (s : State) : State :=
  let c := s.conditions[b]
  let held := ceaseHeld b s
  let fault := ceaseIf (s.bays[b].state == .fault) .overcurrent b held
  let figures :=
    ceaseIf c.senderFault .senderFault b
      (ceaseIf c.fuelDrop .fuelDrop b (ceaseIf c.fuelLow .fuelLow b (ceaseIf c.probeFault .probeFault b fault)))
  (ceaseIf s.doors[b].doorLong .doorLong b figures).modCond b (fun _ => .none)

/-- R52: a disconnect: the record departs, conditions cease, work in flight ends, the bay is EMPTY unless DISABLED, and
the door watch returns to its unwatched values. A bay already UNCONNECTED meets no disconnect (R37). -/
def disconnect (b : Bay) (s : State) : State :=
  if s.bays[b].connected then
    let left := ceaseAll b (depart b s)
    let ended := readerLeaves b (converterLeaves b left)
    let next : BayState := if s.bays[b].state = .disabled then .disabled else .empty
    (ended.modBay b (fun x => { x.become next with connected := false, differing := 0 })).modDoor b (fun _ => .unwatched)
  else s

/-- CONNECT and DISCONNECT: the sense line stands at a level that has been accepted (log 9); where the accepted state is
that level already, none is accepted (R37). -/
def senseAcceptance (b : Bay) (level : Bool) (s : State) : State :=
  if s.bays[b].connected = level then s
  else
    let stands := s.modLines b (fun x => { x with sense := level })
    if level then connect b stands else disconnect b stands

/-- The meaning of CONNECT. -/
def execConnect (b : Bay) (s : State) : Host.Outcome State Fault Refusal := whenRunning s (senseAcceptance b true)

/-- The meaning of DISCONNECT. -/
def execDisconnect (b : Bay) (s : State) : Host.Outcome State Fault Refusal := whenRunning s (senseAcceptance b false)

end Sys2Proof.Machine
end

