-- ==== Sys2Proof/Machine/Operands.lean ====
section
/-! DEFINITION. Message layouts of the host link (R170, R175, Tables 55 to 60): the request of each command code, read
from and written to payload bytes, the codes of values, the fields of answers, and the CHECK of a frame. -/

namespace Sys2Proof.Machine

/-! ## Numbers in messages (R175: little-endian) -/

/-- The bytes of a two-byte number. -/
def halfBytes (v : Half) : List Byte := [v.extractLsb' 0 8, v.extractLsb' 8 8]

/-- The bytes of a four-byte number. -/
def wordBytes (v : Word) : List Byte := [v.extractLsb' 0 8, v.extractLsb' 8 8, v.extractLsb' 16 8, v.extractLsb' 24 8]

/-- The two-byte number of two bytes. -/
def joinHalf (a b : Byte) : Half := b ++ a

/-- The four-byte number of four bytes. -/
def joinWord (a b c d : Byte) : Word := d ++ c ++ b ++ a

/-- A count as one byte. -/
def byteNat (n : Nat) : List Byte := [BitVec.ofNat 8 n]

/-- A count as two bytes. -/
def halfNat (n : Nat) : List Byte := halfBytes (BitVec.ofNat 16 n)

/-- A signed number as two bytes. -/
def halfInt (n : Int) : List Byte := halfBytes (BitVec.ofInt 16 n)

/-- A count as four bytes. -/
def wordNat (n : Nat) : List Byte := wordBytes (BitVec.ofNat 32 n)

/-- R175: a presence byte: bit n for the n-th optional field. -/
def presenceValue : List Bool → Nat
  | [] => 0
  | p :: rest => p.toNat + 2 * presenceValue rest

/-- R175: a presence byte. -/
def presence (fields : List Bool) : List Byte := byteNat (presenceValue fields)

/-- R175: an absent field reads 0. -/
def optional {α : Type} (zero : List Byte) (f : α → List Byte) : Option α → List Byte
  | some a => f a
  | none => zero

/-! ## Requests (Table 55) -/

/-- A request whose code and length are right (R172). -/
inductive Request where
  | book (number : TrailerNo) (settings : SettingsArg)
  | amend (number : TrailerNo) (settings : SettingsArg)
  | retire (number : TrailerNo)
  | lookup (selector : Byte) (operand : Word)
  | list (state : Byte)
  | assign (bay : Byte) (number : TrailerNo)
  | rebase (number : TrailerNo)
  | defrostNow (number : TrailerNo)
  | defrostStop (number : TrailerNo)
  | bayStatus (bay : Byte)
  | bayEnable (bay : Byte)
  | bayDisable (bay : Byte)
  | clearFault (bay : Byte)
  | spot (bay : Byte) (kind : Byte)
  | curveWrite (curve : Byte) (kind : Byte) (count : Byte) (points : List (Word × Half))
  | curveRead (curve : Byte)
  | curveClear (curve : Byte)
  | set (setting : Byte) (value : Word)
  | get (setting : Byte)
  | routeSet (kind : Byte) (mask : Byte) (cls : Byte)
  | routeRead (kind : Byte)
  | take
  | ack (kind : Byte) (position : Byte)
  | reset
deriving DecidableEq, Repr

/-- Table 55: the command code. -/
def Request.code : Request → Byte
  | .book _ _ => 0x01
  | .amend _ _ => 0x02
  | .retire _ => 0x03
  | .lookup _ _ => 0x04
  | .list _ => 0x05
  | .assign _ _ => 0x06
  | .rebase _ => 0x07
  | .defrostNow _ => 0x08
  | .defrostStop _ => 0x09
  | .bayStatus _ => 0x0A
  | .bayEnable _ => 0x0B
  | .bayDisable _ => 0x0C
  | .clearFault _ => 0x0D
  | .spot _ _ => 0x0E
  | .curveWrite _ _ _ _ => 0x0F
  | .curveRead _ => 0x10
  | .curveClear _ => 0x11
  | .set _ _ => 0x12
  | .get _ => 0x13
  | .routeSet _ _ _ => 0x14
  | .routeRead _ => 0x15
  | .take => 0x16
  | .ack _ _ => 0x17
  | .reset => 0x18

/-- A one-byte setting in a request, present if its mask bit is set. -/
def giveByte (given : Bool) (v : Byte) : List Byte := if given then [v] else []

/-- A two-byte setting in a request, present if its mask bit is set. -/
def giveHalf (given : Bool) (v : Half) : List Byte := if given then halfBytes v else []

/-- Table 55: the settings mask and the given settings, in the order of the settings block. -/
def settingsBytes (a : SettingsArg) : List Byte :=
  halfBytes a.mask ++ giveByte (a.gives 0) a.fuelCurve ++ giveByte (a.gives 1) a.probeCurve
    ++ giveByte (a.gives 2) a.heaterLoad ++ giveHalf (a.gives 3) a.interval ++ giveByte (a.gives 4) a.clockMode
    ++ giveHalf (a.gives 5) a.termination ++ giveHalf (a.gives 6) a.maxHeat ++ giveHalf (a.gives 7) a.drip
    ++ giveHalf (a.gives 8) a.lowFuel ++ giveHalf (a.gives 9) a.dropThreshold ++ giveHalf (a.gives 10) a.doorRunning
    ++ giveHalf (a.gives 11) a.doorStopped

/-- Table 55: a point of a curve. -/
def pointBytes (p : Word × Half) : List Byte := wordBytes p.1 ++ halfBytes p.2

/-- Table 55: the payload behind the command code. -/
def Request.operands : Request → List Byte
  | .book n a => wordBytes n ++ settingsBytes a
  | .amend n a => wordBytes n ++ settingsBytes a
  | .retire n => wordBytes n
  | .lookup sel op => sel :: wordBytes op
  | .list st => [st]
  | .assign b n => b :: wordBytes n
  | .rebase n => wordBytes n
  | .defrostNow n => wordBytes n
  | .defrostStop n => wordBytes n
  | .bayStatus b => [b]
  | .bayEnable b => [b]
  | .bayDisable b => [b]
  | .clearFault b => [b]
  | .spot b k => [b, k]
  | .curveWrite c k n pts => [c, k, n] ++ pts.flatMap pointBytes
  | .curveRead c => [c]
  | .curveClear c => [c]
  | .set c v => c :: wordBytes v
  | .get c => [c]
  | .routeSet k m c => [k, m, c]
  | .routeRead k => [k]
  | .take => []
  | .ack k p => [k, p]
  | .reset => []

/-- Table 55: the request payload. -/
def Request.payload (r : Request) : List Byte := r.code :: r.operands

/-- A payload read (R172): a request, or the first check that fails with the code received. -/
inductive Parsed where
  | request (r : Request)
  | unknownCommand (code : Byte)
  | badLength (code : Byte)
deriving DecidableEq, Repr

/-- A one-byte setting taken from the bytes, if its mask bit is set. -/
def takeByte (given : Bool) (bs : List Byte) : Option (Byte × List Byte) :=
  if given then
    match bs with
    | a :: rest => some (a, rest)
    | [] => none
  else some (0, bs)

/-- A two-byte setting taken from the bytes, if its mask bit is set. -/
def takeHalf (given : Bool) (bs : List Byte) : Option (Half × List Byte) :=
  if given then
    match bs with
    | a :: b :: rest => some (joinHalf a b, rest)
    | [_] => none
    | [] => none
  else some (0, bs)

/-- Table 55: the given settings behind a mask; none where the length does not fit. -/
def parseSettings (mask : Half) (bs : List Byte) : Option SettingsArg :=
  (takeByte (mask.getLsbD 0) bs).bind fun (fuelCurve, b0) =>
  (takeByte (mask.getLsbD 1) b0).bind fun (probeCurve, b1) =>
  (takeByte (mask.getLsbD 2) b1).bind fun (heaterLoad, b2) =>
  (takeHalf (mask.getLsbD 3) b2).bind fun (interval, b3) =>
  (takeByte (mask.getLsbD 4) b3).bind fun (clockMode, b4) =>
  (takeHalf (mask.getLsbD 5) b4).bind fun (termination, b5) =>
  (takeHalf (mask.getLsbD 6) b5).bind fun (maxHeat, b6) =>
  (takeHalf (mask.getLsbD 7) b6).bind fun (drip, b7) =>
  (takeHalf (mask.getLsbD 8) b7).bind fun (lowFuel, b8) =>
  (takeHalf (mask.getLsbD 9) b8).bind fun (dropThreshold, b9) =>
  (takeHalf (mask.getLsbD 10) b9).bind fun (doorRunning, b10) =>
  (takeHalf (mask.getLsbD 11) b10).bind fun (doorStopped, b11) =>
  match b11 with
  | [] => some { mask := mask, fuelCurve := fuelCurve, probeCurve := probeCurve, heaterLoad := heaterLoad,
                 interval := interval, clockMode := clockMode, termination := termination, maxHeat := maxHeat,
                 drip := drip, lowFuel := lowFuel, dropThreshold := dropThreshold, doorRunning := doorRunning,
                 doorStopped := doorStopped }
  | _ :: _ => none

/-- Table 55: points of six bytes each; none where the length does not fit. -/
def parsePoints : List Byte → Option (List (Word × Half))
  | [] => some []
  | a :: b :: c :: d :: e :: f :: rest => (parsePoints rest).map ((joinWord a b c d, joinHalf e f) :: ·)
  | _ => none

/-- A request of an operand of one byte. -/
def parse1 (f : Byte → Request) : List Byte → Option Request
  | [a] => some (f a)
  | _ => none

/-- A request of an operand of two single bytes. -/
def parse2 (f : Byte → Byte → Request) : List Byte → Option Request
  | [a, b] => some (f a b)
  | _ => none

/-- A request of a four-byte operand. -/
def parseWord (f : Word → Request) : List Byte → Option Request
  | [a, b, c, d] => some (f (joinWord a b c d))
  | _ => none

/-- A request of a byte and a four-byte operand. -/
def parseByteWord (f : Byte → Word → Request) : List Byte → Option Request
  | [x, a, b, c, d] => some (f x (joinWord a b c d))
  | _ => none

/-- A request of a trailer number and settings. -/
def parseNumberSettings (f : TrailerNo → SettingsArg → Request) : List Byte → Option Request
  | a :: b :: c :: d :: m0 :: m1 :: rest => (parseSettings (joinHalf m0 m1) rest).map (f (joinWord a b c d))
  | _ => none

/-- CURVE_WRITE: the length must equal `4 + 6n` for the count n declared. -/
def parseCurveWrite : List Byte → Option Request
  | c :: k :: n :: rest =>
    (parsePoints rest).bind fun pts => if pts.length = n.toNat then some (.curveWrite c k n pts) else none
  | _ => none

/-- ROUTE_SET's three bytes. -/
def parseRouteSet : List Byte → Option Request
  | [k, m, c] => some (.routeSet k m c)
  | _ => none

/-- A request without operands. -/
def parseNone (r : Request) : List Byte → Option Request
  | [] => some r
  | _ :: _ => none

/-- Table 55: how the operands of a command code are read. -/
def operandParser (code : Byte) : Option (List Byte → Option Request) :=
  match code.toNat with
  | 1 => some (parseNumberSettings .book)
  | 2 => some (parseNumberSettings .amend)
  | 3 => some (parseWord .retire)
  | 4 => some (parseByteWord .lookup)
  | 5 => some (parse1 .list)
  | 6 => some (parseByteWord .assign)
  | 7 => some (parseWord .rebase)
  | 8 => some (parseWord .defrostNow)
  | 9 => some (parseWord .defrostStop)
  | 10 => some (parse1 .bayStatus)
  | 11 => some (parse1 .bayEnable)
  | 12 => some (parse1 .bayDisable)
  | 13 => some (parse1 .clearFault)
  | 14 => some (parse2 .spot)
  | 15 => some parseCurveWrite
  | 16 => some (parse1 .curveRead)
  | 17 => some (parse1 .curveClear)
  | 18 => some (parseByteWord .set)
  | 19 => some (parse1 .get)
  | 20 => some parseRouteSet
  | 21 => some (parse1 .routeRead)
  | 22 => some (parseNone .take)
  | 23 => some (parse2 .ack)
  | 24 => some (parseNone .reset)
  | _ => none

/-- R172: the first two checks on a payload. -/
def parseOperands (code : Byte) (operands : List Byte) : Parsed :=
  match operandParser code with
  | none => .unknownCommand code
  | some parser =>
    match parser operands with
    | some r => .request r
    | none => .badLength code

/-- The request for which a direct command of the table stands has a payload that is read back as itself when its
settings are canonical and its count declares its points (R175). -/
def Request.canonical : Request → Bool
  | .book _ a => a.canonical
  | .amend _ a => a.canonical
  | .curveWrite _ _ n pts => decide (pts.length = n.toNat)
  | .retire _ | .lookup _ _ | .list _ | .assign _ _ | .rebase _ | .defrostNow _ | .defrostStop _ | .bayStatus _ => true
  | .bayEnable _ | .bayDisable _ | .clearFault _ | .spot _ _ | .curveRead _ | .curveClear _ | .set _ _ | .get _ => true
  | .routeSet _ _ _ | .routeRead _ | .take | .ack _ _ | .reset => true

/-! ## Codes (Table 57) -/

/-- The status of an answer (R172). -/
inductive Status where
  | ok
  | empty
  | unknownCommand
  | badLength
  | badValue
  | notFound
  | duplicate
  | full
  | inUse
  | wrongState
  | busy
deriving DecidableEq, Repr

/-- Table 57, status. -/
def Status.code : Status → Byte
  | .ok => 0
  | .empty => 1
  | .unknownCommand => 2
  | .badLength => 3
  | .badValue => 4
  | .notFound => 5
  | .duplicate => 6
  | .full => 7
  | .inUse => 8
  | .wrongState => 9
  | .busy => 10

/-- Table 57, lifecycle state. -/
def Place.code : Place → Nat
  | .booked => 1
  | .parked _ _ => 2
  | .departed _ _ _ => 3

/-- Table 57, origin. -/
def Origin.code : Origin → Nat
  | .booked => 0
  | .unbooked => 1

/-- Table 57, interval clock mode. -/
def ClockMode.code : ClockMode → Nat
  | .wall => 0
  | .run => 1

/-- Table 57, defrost state. -/
def DefrostState.code : DefrostState → Nat
  | .idle => 0
  | .waiting _ => 1
  | .heating _ => 2
  | .dripping => 3

/-- Table 57, defrost class. -/
def DefrostClass.code : DefrostClass → Nat
  | .normal => 0
  | .urgent => 1

/-- Table 57, error kind. -/
def ErrorKind.code : ErrorKind → Nat
  | .none => 0
  | .opened => 1
  | .short => 2
  | .reference => 3
  | .high => 4

/-- Table 57, door state. -/
def DoorState.code : DoorState → Nat
  | .unknown => 0
  | .shut => 1
  | .opened => 2

/-- Table 57, run state. -/
def RunState.code : RunState → Nat
  | .unknown => 0
  | .running => 1
  | .stopped => 2

/-- Table 57, over-current state. -/
def OvcState.code : OvcState → Nat
  | .clear => 0
  | .tripped => 1

/-- Table 57, bay state. -/
def BayState.code : BayState → Nat
  | .empty => 0
  | .identifying => 1
  | .held _ => 2
  | .serving => 3
  | .fault => 4
  | .disabled => 5

/-- Table 57, held reason. -/
def Held.code : Held → Nat
  | .tagFail => 0
  | .conflict _ => 1
  | .tableFull _ => 2

/-- Table 57, channel and curve kind. -/
def channelKindCode : ChannelKind → Nat
  | .fuel => 0
  | .probe => 1

/-- Table 57, channel and curve kind of a code. -/
def channelKindOf (c : Byte) : Option ChannelKind :=
  match c.toNat with
  | 0 => some .fuel
  | 1 => some .probe
  | _ => none

/-- Table 57, route mask. -/
def maskCode (masked : Bool) : Nat := masked.toNat

/-- Table 57, route mask of a code; true is MASKED. -/
def maskOf (c : Byte) : Option Bool :=
  match c.toNat with
  | 0 => some false
  | 1 => some true
  | _ => none

/-- Table 57, notice class. -/
def NoticeClass.code : NoticeClass → Nat
  | .low => 0
  | .high => 1

/-- Table 57, notice class of a code. -/
def noticeClassOf (c : Byte) : Option NoticeClass :=
  match c.toNat with
  | 0 => some .low
  | 1 => some .high
  | _ => none

/-- Table 57, delivery state. -/
def Delivery.code : Delivery → Nat
  | .idle => 0
  | .raised _ _ _ => 1
  | .taken _ => 2
  | .acked _ => 3

/-- Table 57, GUARD. -/
def Guard.code : Guard → Nat
  | .off => 0
  | .opening => 1
  | .any => 2

/-- Table 57, GUARD of a code. -/
def guardOf (v : Nat) : Option Guard :=
  match v with
  | 0 => some .off
  | 1 => some .opening
  | 2 => some .any
  | _ => none

/-- Table 57, RESET_CAUSE. -/
def ResetCause.code : ResetCause → Nat
  | .power => 0
  | .pin => 1
  | .command => 2

/-- Table 49, the kind of a number. -/
def kindOf (k : Byte) : Option Kind :=
  match k.toNat with
  | 0 => none
  | 16 => some .feederSag
  | n + 1 => bayKinds[n]?.map Kind.bay

/-- Table 49, the number of a kind. -/
def Kind.number (k : Kind) : Nat := k.index.val + 1

/-- A bay number in a message. -/
def bayOf (b : Byte) : Option Bay := if h : b.toNat < 16 then some ⟨b.toNat, h⟩ else none

/-- R155, Table 57: the key of a kind and a position code. -/
def keyOf (k p : Byte) : Option Key :=
  match kindOf k with
  | none => none
  | some .feederSag => if p = 16 then some .feederSag else none
  | some (.bay kind) => (bayOf p).map (Key.bay kind)

/-- Table 57, the position of a key. -/
def Key.position : Key → Nat
  | .bay _ b => b.val
  | .feederSag => 16

/-- Table 56: the settings by their codes. -/
inductive Setting where
  | roundMs
  | checkAt
  | grantAt
  | sweepAt
  | reserveMs
  | fuelEvery
  | probeEvery
  | settleRounds
  | smoothShift
  | feederUnits
  | sagLevel
  | restoreRounds
  | powerGoodMs
  | guard
  | resetCause
deriving DecidableEq, Repr

/-- Table 56: the setting of a code. -/
def settingOf (c : Byte) : Option Setting :=
  match c.toNat with
  | 1 => some .roundMs
  | 2 => some .checkAt
  | 3 => some .grantAt
  | 4 => some .sweepAt
  | 5 => some .reserveMs
  | 6 => some .fuelEvery
  | 7 => some .probeEvery
  | 8 => some .settleRounds
  | 9 => some .smoothShift
  | 10 => some .feederUnits
  | 11 => some .sagLevel
  | 12 => some .restoreRounds
  | 13 => some .powerGoodMs
  | 14 => some .guard
  | 15 => some .resetCause
  | _ => none

/-- Table 56: the code of a setting. -/
def Setting.code : Setting → Byte
  | .roundMs => 1
  | .checkAt => 2
  | .grantAt => 3
  | .sweepAt => 4
  | .reserveMs => 5
  | .fuelEvery => 6
  | .probeEvery => 7
  | .settleRounds => 8
  | .smoothShift => 9
  | .feederUnits => 10
  | .sagLevel => 11
  | .restoreRounds => 12
  | .powerGoodMs => 13
  | .guard => 14
  | .resetCause => 15

/-! ## Answers -/

/-- An answer: its status, and the results behind it, empty unless OK (R172). -/
structure Answer where
  status : Status
  results : List Byte
deriving DecidableEq, Repr

/-- R172: a refused command carries the code and the status, and nothing more. -/
def refusal (st : Status) : Answer := { status := st, results := [] }

/-- An answer OK with its results. -/
def okay (results : List Byte) : Answer := { status := .ok, results := results }

/-- R172: the response payload of a command code. -/
def Answer.payload (code : Byte) (a : Answer) : List Byte := code :: a.status.code :: a.results

/-- A curve number of the settings block; 0xFF is NONE. -/
def curveNumber : Option (Fin 8) → Nat
  | some c => c.val
  | none => 255

/-- R175: the settings block, 20 bytes. -/
def Settings.block (x : Settings) : List Byte :=
  byteNat (curveNumber x.fuelCurve) ++ byteNat (curveNumber x.probeCurve) ++ byteNat x.heaterLoad ++ halfNat x.interval
    ++ byteNat x.clockMode.code ++ halfInt x.termination ++ halfNat x.maxHeat ++ halfNat x.drip ++ halfNat x.lowFuel
    ++ halfNat x.dropThreshold ++ halfNat x.doorRunning ++ halfNat x.doorStopped

/-- The bay of a record, present in PARKED. -/
def Place.lastBay : Place → Option Bay
  | .departed b _ _ => some b
  | .booked => none
  | .parked _ _ => none

/-- The parked-since round, present in PARKED and DEPARTED. -/
def Place.since : Place → Option Round
  | .parked _ r => some r
  | .departed _ r _ => some r
  | .booked => none

/-- The departed round, present in DEPARTED. -/
def Place.leftAt : Place → Option Round
  | .departed _ _ r => some r
  | .booked => none
  | .parked _ _ => none

/-- The class, present in WAITING. -/
def DefrostState.cls : DefrostState → Option DefrostClass
  | .waiting c => some c
  | .idle => none
  | .heating _ => none
  | .dripping => none

/-- The granted class, present in HEATING (R108). -/
def DefrostState.granted : DefrostState → Option DefrostClass
  | .heating c => some c
  | .idle => none
  | .waiting _ => none
  | .dripping => none

/-- Two zero bytes, as an absent two-byte field reads. -/
def zeroHalf : List Byte := [0, 0]

/-- Table 58, offsets 2 to 34: identity, place and settings. -/
def Record.placeBytes (r : Record) : List Byte :=
  byteNat r.place.code ++ wordBytes r.number ++ byteNat r.origin.code
    ++ presence [r.place.bay?.isSome, r.place.lastBay.isSome, r.place.since.isSome, r.place.leftAt.isSome]
    ++ optional [0] (fun b : Bay => byteNat b.val) r.place.bay? ++ optional [0] (fun b : Bay => byteNat b.val) r.place.lastBay
    ++ optional zeroHalf halfBytes r.place.since ++ optional zeroHalf halfBytes r.place.leftAt ++ r.settings.block

/-- Table 58, offsets 35 to 47: fuel figures. -/
def FuelFigures.bytes (f : FuelFigures) : List Byte :=
  presence [f.lastResistance.isSome, f.lastLevel.isSome, f.filtered.isSome, f.baseline.isSome, f.lastRound.isSome]
    ++ optional zeroHalf halfNat f.lastResistance ++ optional zeroHalf halfInt f.lastLevel
    ++ optional zeroHalf halfInt f.filtered ++ optional zeroHalf halfInt f.baseline
    ++ optional zeroHalf halfBytes f.lastRound ++ byteNat f.errorRun ++ byteNat f.lastError.code

/-- Table 58, offsets 48 to 56: probe figures. -/
def ProbeFigures.bytes (p : ProbeFigures) : List Byte :=
  presence [p.lastResistance.isSome, p.coil.isSome] ++ optional [0, 0, 0, 0] wordNat p.lastResistance
    ++ optional zeroHalf halfInt p.coil ++ byteNat p.errorRun ++ byteNat p.lastError.code

/-- Table 58, offsets 57 to 73: defrost figures, with the grant held while HEATING (R126). -/
def DefrostFigures.bytes (d : DefrostFigures) (grant : Option Grant) : List Byte :=
  presence [d.state.cls.isSome, d.state.granted.isSome, grant.isSome, grant.isSome] ++ byteNat d.state.code
    ++ optional [0] (fun c : DefrostClass => byteNat c.code) d.state.cls
    ++ optional [0] (fun c : DefrostClass => byteNat c.code) d.state.granted
    ++ optional [0] (fun g : Grant => byteNat g.load) grant ++ optional zeroHalf (fun g : Grant => halfBytes g.round) grant
    ++ wordNat d.intervalCount ++ halfNat d.heatRounds ++ halfNat d.dripCount ++ halfNat d.completed

/-- Table 58, offsets 74 to 81: door figures. -/
def DoorFigures.bytes (f : DoorFigures) : List Byte :=
  presence [f.lastChange.isSome] ++ byteNat f.state.code ++ halfNat f.openings ++ halfNat f.openRounds
    ++ optional zeroHalf halfBytes f.lastChange

/-- Table 58, behind code and status. -/
def Record.bytes (grant : Option Grant) (r : Record) : List Byte :=
  r.placeBytes ++ r.fuel.bytes ++ r.probe.bytes ++ r.defrost.bytes grant ++ r.door.bytes

/-- R175: a value of a curve point: signed for a PROBE curve. -/
def curvePointBytes (p : Nat × Int) : List Byte := wordNat p.1 ++ halfInt p.2

/-- Table 55: the curve of an answer; kind 0xFF and no points for an empty curve. -/
def curveBytes (c : Fin 8) : Option Curve → List Byte
  | none => byteNat c.val ++ [0xFF, 0]
  | some v => byteNat c.val ++ byteNat (channelKindCode v.kind) ++ byteNat v.points.length ++ v.points.flatMap curvePointBytes

/-- Table 59: a value as four bytes. -/
def NoticeValue.bytes : NoticeValue → List Byte
  | .origin o => wordNat o.code
  | .tag t => wordBytes t
  | .rounds n => wordNat n
  | .error e => wordNat e.code
  | .level l => wordBytes (BitVec.ofInt 32 l)
  | .units n => wordNat n

/-- Table 59, behind code and status. -/
def noticeBytes (k : Key) (info : RaiseInfo) (slot : Slot) (repeats remaining : Nat) : List Byte :=
  byteNat k.kind.number ++ byteNat k.position ++ byteNat info.cls.code
    ++ presence [slot.trailer.isSome, slot.value.isSome] ++ optional [0, 0, 0, 0] wordBytes slot.trailer
    ++ optional [0, 0, 0, 0] NoticeValue.bytes slot.value ++ halfBytes info.round ++ byteNat repeats ++ byteNat remaining

/-- Table 60, behind code and status. -/
def bayBytes (x : BayCtl) (d : DoorWatch) (rank : Nat) (trailer : Option TrailerNo) : List Byte :=
  let held := match x.state with
    | .held h => some h
    | .empty => none
    | .identifying => none
    | .serving => none
    | .fault => none
    | .disabled => none
  byteNat x.state.code ++ presence [held.isSome, (held.bind Held.tag).isSome, trailer.isSome]
    ++ optional [0] (fun h : Held => byteNat h.code) held ++ optional [0, 0, 0, 0] wordBytes (held.bind Held.tag)
    ++ presence [x.connected, x.powerOn, x.powerGood] ++ byteNat d.ovc.code ++ byteNat d.figures.state.code
    ++ byteNat d.run.code ++ byteNat rank ++ optional [0, 0, 0, 0] wordBytes trailer

/-- R173: an answer to SET or GET: the setting, the count and the values of four bytes each. -/
def settingAnswer (code : Byte) (values : List Nat) : List Byte :=
  code :: BitVec.ofNat 8 values.length :: values.flatMap wordNat

/-! ## The CHECK of a frame (R170) -/

/-- R170: the register after one bit. -/
def crcBit (reg : Half) (bit : Bool) : Half :=
  if bit != reg.getLsbD 15 then (reg <<< 1) ^^^ 0x1021 else reg <<< 1

/-- R170: the register after one byte, most significant bit first. -/
def crcByte (reg : Half) (b : Byte) : Half :=
  [7, 6, 5, 4, 3, 2, 1, 0].foldl (fun r i => crcBit r (b.getLsbD i)) reg

/-- R170: the CHECK over bytes in the order sent. -/
def crc (bytes : List Byte) : Half := bytes.foldl crcByte 0xFFFF

/-- R170: the CHECK of a frame with a payload: over the LENGTH byte and the payload. -/
def checkOf (payload : List Byte) : Half := crc (BitVec.ofNat 8 payload.length :: payload)

/-- R168: the frame of a payload: SYNC, LENGTH, payload and CHECK, low byte first. -/
def frameOf (payload : List Byte) : List Byte :=
  Config.sync :: BitVec.ofNat 8 payload.length :: payload ++ halfBytes (checkOf payload)

end Sys2Proof.Machine
end

