-- ==== Sys2Proof/Machine/Notify.lean ====
section
/-! DEFINITION. The host's commands on notices (R156, R162 to R165): TAKE, ACK, ROUTE_SET and ROUTE_READ. -/

namespace Sys2Proof.Machine

namespace Notices

/-! ## TAKE (R162) -/

/-- R162: the delivery state that a taken slot goes to. -/
def afterTake (k : Key) (info : RaiseInfo) : Delivery := if k.kind.isCondition then .taken info else .idle

/-- R162: the head key leaves, its slot becomes TAKEN or IDLE, and the freed place is filled. -/
def takeHead (now : Round) (k : Key) (info : RaiseInfo) (n : Notices) : Notices :=
  (n.putSlot k { n.slot k with delivery := afterTake k info }).leaveQueue now k

/-- R162: TAKE. A key stands in the queue only while its slot is RAISED (R157). -/
def take (now : Round) (n : Notices) : Notices × Answer :=
  match n.queue with
  | [] => (n, refusal .empty)
  | k :: _ =>
    match (n.slot k).delivery with
    | .raised info repeats _ =>
      let left := takeHead now k info n
      (left, okay (noticeBytes k info (n.slot k) (repeats.getD 1) left.queue.length))
    | .idle => (n, refusal .empty)
    | .taken _ => (n, refusal .empty)
    | .acked _ => (n, refusal .empty)

/-! ## ACK (R163) -/

/-- R163: the delivery state that ACK gives a TAKEN slot. -/
def afterAck (present : Bool) (info : RaiseInfo) : Delivery := if present then .acked info else .idle

/-- R163: ACK of a key. -/
def ack (k : Key) (n : Notices) : Notices × Answer :=
  if k.kind.isCondition then
    match (n.slot k).delivery with
    | .taken info =>
      let next := afterAck (n.slot k).present info
      (n.putSlot k { n.slot k with delivery := next }, okay (byteNat next.code))
    | .idle => (n, refusal .wrongState)
    | .raised _ _ _ => (n, refusal .wrongState)
    | .acked _ => (n, refusal .wrongState)
  else (n, refusal .wrongState)

/-! ## Routes (R156, R164, R165) -/

/-- R165: an IDLE condition slot whose condition is present is raised. -/
def unmaskKey (now : Round) (k : Key) (n : Notices) : Notices :=
  match (n.slot k).delivery with
  | .idle => if (n.slot k).present then n.becomeRaised now k none else n
  | .raised _ _ _ => n
  | .taken _ => n
  | .acked _ => n

/-- R164, R165: what a change of mask does to the condition slots of a kind, in ascending position order. -/
def maskChanged (now : Round) (k : Kind) (before after : Bool) (n : Notices) : Notices :=
  if k.isCondition then
    match before, after with
    | false, true => k.keys.foldl (fun m key => m.withdraw now key) n
    | true, false => k.keys.foldl (fun m key => m.unmaskKey now key) n
    | false, false => n
    | true, true => n
  else n

/-- R164: the class is stored first, then the mask. -/
def setRoute (now : Round) (k : Kind) (masked : Bool) (cls : NoticeClass) (n : Notices) : Notices :=
  maskChanged now k (n.route k).masked masked (n.putRoute k { masked := masked, cls := cls })

/-- R164: the route in an answer. -/
def routeBytes (n : Notices) (k : Kind) : List Byte :=
  byteNat k.number ++ byteNat (maskCode (n.route k).masked) ++ byteNat (n.route k).cls.code

end Notices

/-- R162: TAKE. -/
def take (s : State) : State × Answer :=
  let out := s.notices.take s.timer.number
  ({ s with notices := out.1 }, out.2)

/-- R163: ACK. -/
def ack (kind position : Byte) (s : State) : State × Answer :=
  match keyOf kind position with
  | none => (s, refusal .badValue)
  | some k =>
    let out := s.notices.ack k
    ({ s with notices := out.1 }, out.2)

/-- R164: ROUTE_SET. -/
def routeSet (kind mask cls : Byte) (s : State) : State × Answer :=
  match kindOf kind, maskOf mask, noticeClassOf cls with
  | some k, some m, some c =>
    let routed := s.modNotices (Notices.setRoute s.timer.number k m c)
    (routed, okay (routed.notices.routeBytes k))
  | _, _, _ => (s, refusal .badValue)

/-- R156: ROUTE_READ. -/
def routeRead (kind : Byte) (s : State) : State × Answer :=
  match kindOf kind with
  | some k => (s, okay (s.notices.routeBytes k))
  | none => (s, refusal .badValue)

end Sys2Proof.Machine
end

