-- ==== Sys2Proof/Machine/Feeder.lean ====
section
/-! DEFINITION. The feeder arbiter (R126 to R142): units, the feeder check, sheds, the grant walk, ranks and changes of
capacity. -/

namespace Sys2Proof.Machine

namespace Feeder

/-- The sum of the granted loads in a grant list. -/
def loadSum (grants : List Grant) : Nat := (grants.map (·.load)).sum

/-- R128: the free units. -/
def free (f : Feeder) : Nat := f.units - f.shed - loadSum f.grants

/-- R130, R131: the verdict on FSENSE in whole millivolts; the criterion of SAG_LEVEL n is 790 + 10 n millivolts
(log 19). -/
def judge (f : Feeder) (fsense : Nat) : Verdict :=
  if f.sagLevel = 0 then .clear
  else if fsense < Config.sagBase + Config.sagStep * f.sagLevel then .sag
  else .clear

/-- R132: the arbiter's side of a SAG verdict: the newest entry is shed into the shed units, the restore counter is 0. -/
def sagged (f : Feeder) : Feeder :=
  match f.grants.getLast? with
  | some g => { f with grants := f.grants.dropLast, shed := min f.units (f.shed + g.load), restoreCounter := 0 }
  | none => { f with restoreCounter := 0 }

/-- R133: the arbiter's side of a CLEAR verdict. -/
def restored (f : Feeder) : Feeder :=
  if f.shed = 0 then f
  else if f.restoreRounds ≤ f.restoreCounter + 1 then { f with shed := f.shed - 1, restoreCounter := 0 }
  else { f with restoreCounter := f.restoreCounter + 1 }

/-- R131: latch a verdict; R130: the comparator is powered down. -/
def latch (v : Verdict) (f : Feeder) : Feeder := { f with verdict := v, comparatorOn := false }

/-- R138: the rank a bay holds after a grant at a bay of rank `r`. -/
def rankAfter (granted : Bay) (r : Nat) (b : Bay) (old : Nat) : Nat :=
  if b = granted then 0 else if old < r then old + 1 else old

/-- R138: the rotation of ranks at a grant. -/
def rotate (b : Bay) (f : Feeder) : Feeder :=
  { f with rank := Vector.ofFn (fun c : Fin 16 => rankAfter b f.rank[b] c f.rank[c]) }

/-- R137: the arbiter's side of a grant. -/
def grant (b : Bay) (load : Nat) (now : Round) (f : Feeder) : Feeder :=
  Feeder.rotate b { f with grants := f.grants ++ [{ bay := b, load := load, round := now }] }

/-- R141, step 2, on the grant list newest first: entries are shed while the loads exceed `limit`. -/
def dropNewest (limit : Nat) : List Grant → List Grant
  | [] => []
  | g :: older => if limit < loadSum (g :: older) then dropNewest limit older else g :: older

/-- R141: the grant list that a capacity leaves, oldest first. -/
def fit (limit : Nat) (grants : List Grant) : List Grant := (dropNewest limit grants.reverse).reverse

/-- R141: the bays shed by a capacity, newest grant first. -/
def shedBays (limit : Nat) (grants : List Grant) : List Bay :=
  ((grants.drop (fit limit grants).length).reverse).map (·.bay)

/-- R141: the arbiter after SET FEEDER_UNITS stores the capacity `c`. -/
def setUnits (c : Nat) (f : Feeder) : Feeder :=
  let shed := min f.shed c
  { f with
    units := c, shed := shed, grants := fit (c - shed) f.grants,
    restoreCounter := if shed = 0 then 0 else f.restoreCounter }

end Feeder

/-! ## The feeder check (R130 to R133) -/

/-- R132, R142: a SAG verdict: the newest grant is shed and its record returned to WAITING before FEEDER_SAG is
reported, and FEEDER_SAG becomes present only after a CLEAR verdict. -/
def sagVerdict (s : State) : State :=
  let shed := match s.feeder.grants.getLast? with
    | some g => heatingToWaiting g.bay (s.modFeeder Feeder.sagged)
    | none => s.modFeeder Feeder.sagged
  match s.feeder.verdict with
  | .clear => (shed.modNotices (Notices.present s.timer.number .feederSag none (some (.units shed.feeder.shed)))).modFeeder
      (Feeder.latch .sag)
  | .sag => shed.modFeeder (Feeder.latch .sag)

/-- R131, R133: a CLEAR verdict. -/
def clearVerdict (s : State) : State :=
  let kept := s.modFeeder Feeder.restored
  match s.feeder.verdict with
  | .sag => (kept.modNotices (Notices.cease s.timer.number .feederSag)).modFeeder (Feeder.latch .clear)
  | .clear => kept.modFeeder (Feeder.latch .clear)

/-- R131: the check point, on the level at FSENSE as it stands. -/
def checkPoint (s : State) : State :=
  match s.feeder.judge s.outside.fsense with
  | .sag => sagVerdict s
  | .clear => clearVerdict s

/-! ## The grant walk (R134 to R138) -/

/-- R134: the class of the request at a bay, if its record is WAITING. -/
def State.requestAt (s : State) (b : Bay) : Option DefrostClass :=
  match s.recordAt b with
  | none => none
  | some r =>
    match r.defrost.state with
    | .waiting c => some c
    | .idle => none
    | .heating _ => none
    | .dripping => none

/-- R136: whether a request stands ahead of another: URGENT before NORMAL, then the higher rank. -/
def requestAhead (s : State) (a b : Bay) : Bool :=
  match s.requestAt a, s.requestAt b with
  | some .urgent, some .normal => true
  | some .normal, some .urgent => false
  | _, _ => s.feeder.rank[b] < s.feeder.rank[a]

/-- R136: the requests in their order at the start of the walk. -/
def requestOrder (s : State) : List Bay :=
  sortBy (requestAhead s) (allBays.filter (fun b => (s.requestAt b).isSome))

/-- R135: whether the request at a bay is eligible. -/
def eligible (s : State) (b : Bay) : Bool :=
  s.bays[b].state == .serving && s.bays[b].powerGood && s.doors[b].figures.state == .shut

/-- R116: the record's side of a grant. -/
def Record.granted (c : DefrostClass) : Record → Record :=
  Record.modDefrost fun d => { d with state := .heating c, heatRounds := 0 }

/-- R116, R137: the request of class `c` at bay `b`, with its load, is granted. -/
def grantAt (b : Bay) (c : DefrostClass) (load : Nat) (s : State) : State :=
  ((s.modFeeder (Feeder.grant b load s.timer.number)).modParked b (Record.granted c)).setHeat b true

/-- R137: the walk over the requests in their order. -/
def grantWalk : List Bay → State → State
  | [], s => s
  | b :: rest, s =>
    match s.recordAt b, s.requestAt b with
    | some r, some c =>
      if !eligible s b then grantWalk rest s
      else if r.settings.heaterLoad ≤ s.feeder.free then grantWalk rest (grantAt b c r.settings.heaterLoad s)
      else s
    | _, _ => grantWalk rest s

/-- R136, R137: the grant point: the walk is taken whole. -/
def grantPoint (s : State) : State := grantWalk (requestOrder s) s

/-! ## Changes of capacity (R141) -/

/-- R129, R141: the effects of storing the capacity `c`. -/
def setFeederUnits (c : Nat) (s : State) : State :=
  forBays heatingToWaiting (Feeder.shedBays (c - min s.feeder.shed c) s.feeder.grants)
    (s.modFeeder (Feeder.setUnits c))

end Sys2Proof.Machine
end

