-- ==== Sys2Proof/Machine/Measure.lean ====
section
/-! DEFINITION. The curve store (R87 to R93), the fuel chain (R94 to R107), the probe chain (R110 to R113), and the
events of a conversion that reach them (R68 to R73, R80 to R82). -/

namespace Sys2Proof.Machine

/-! ## Reading a resistance on a curve (R92, R93) -/

/-- R92, inside a segment: the value at `r` between two points. -/
def interpolate (p q : Nat × Int) (r : Nat) : Int :=
  p.2 + divHalfAway ((q.2 - p.2) * (r - p.1 : Int)) (q.1 - p.1)

/-- R92: a resistance read from the point `p` on, the points behind it following. -/
def readFrom (r : Nat) : Nat × Int → List (Nat × Int) → Int
  | p, [] => p.2
  | p, q :: rest => if r ≤ p.1 then p.2 else if r < q.1 then interpolate p q r else readFrom r q rest

/-- R92: a resistance read on the points of a curve. -/
def readPoints (r : Nat) : List (Nat × Int) → Option Int
  | [] => none
  | p :: rest => some (readFrom r p rest)

/-- R92, R93: the value of a resistance on the curve bound, or no value. -/
def State.readCurve (s : State) (kind : ChannelKind) (binding : Option (Fin 8)) (r : Nat) : Option Int :=
  match binding with
  | none => none
  | some c =>
    match s.curves[c] with
    | none => none
    | some curve => if curve.kind = kind then readPoints r curve.points else none

/-! ## The fuel chain (R95 to R105) -/

/-- R98: the filtered level after a filtered update with the sample level `level`. -/
def filterStep (shift : Nat) (filtered : Option Int) (level : Int) : Int :=
  match filtered with
  | none => level
  | some f => f + divHalfAway (level - f) (2 ^ shift)

/-- R100: the baseline after a filtered update that gave `f`. -/
def baselineStep (baseline : Option Int) (f : Int) : Int :=
  match baseline with
  | none => f
  | some b => max b f

/-- R102: FUEL_LOW after a filtered update. -/
def fuelLowAfter (before : Bool) (f : Int) (low : Nat) : Bool :=
  if before then decide (f < (low : Int) + Config.fuelLowBand) else decide (f < (low : Int))

/-- R103: FUEL_DROP after a filtered update. -/
def fuelDropAfter (drop : Int) (threshold : Nat) : Bool := decide ((threshold : Int) ≤ drop)

/-- R96: whether a fuel sample completing now is settled. -/
def settled (d : DoorWatch) : Bool := d.figures.state == .shut && decide (d.settle = 0)

/-- R106: a change of presence is reported, with its value when presence becomes true. -/
def report (before after : Bool) (k : BayKind) (b : Bay) (trailer : Option TrailerNo) (value : NoticeValue)
    (s : State) : State :=
  match before, after with
  | false, true => presentAt k b trailer (some value) s
  | true, false => ceaseAt k b s
  | true, true => s
  | false, false => s

/-- R95, step 7: the filter, the baseline and the judgements of a settled sample with a value. -/
def filteredUpdate (b : Bay) (r : Record) (level : Int) (s : State) : State :=
  let f := filterStep s.smoothShift r.fuel.filtered level
  let base := baselineStep r.fuel.baseline f
  let low := fuelLowAfter s.conditions[b].fuelLow f r.settings.lowFuel
  let drop := fuelDropAfter (base - f) r.settings.dropThreshold
  let written := s.modParked b (fun x => { x with fuel := { x.fuel with filtered := some f, baseline := some base } })
  let judged := written.modCond b (fun c => { c with fuelLow := low, fuelDrop := drop })
  report s.conditions[b].fuelDrop drop .fuelDrop b (some r.number) (.level (base - f))
    (report s.conditions[b].fuelLow low .fuelLow b (some r.number) (.level f) judged)

/-- R95, steps 1 and 2: what every sample writes. -/
def Record.sampled (resistance : Nat) (now : Round) (level : Option Int) (r : Record) : Record :=
  { r with fuel := { r.fuel with lastResistance := some resistance, lastRound := some now, lastLevel := level } }

/-- R95: a FUEL result. -/
def fuelResult (b : Bay) (resistance : Nat) (s : State) : State :=
  match s.recordAt b with
  | none => s
  | some r =>
    let level := s.readCurve .fuel r.settings.fuelCurve resistance
    let sampled := s.modParked b (Record.sampled resistance s.timer.number level)
    if settled s.doors[b] then
      let cleared := (ceaseIf s.conditions[b].senderFault .senderFault b
        (sampled.modParked b (fun x => { x with fuel := { x.fuel with errorRun := 0 } }))).modCond b
          (fun c => { c with senderFault := false })
      match level with
      | none => cleared
      | some l => filteredUpdate b r l cleared
    else sampled

/-- R104, R105: a FUEL error. -/
def fuelError (b : Bay) (e : ErrorKind) (s : State) : State :=
  match s.recordAt b with
  | none => s
  | some r =>
    let run := bump Config.errorRunMax r.fuel.errorRun
    let counted := s.modParked b (fun x => { x with fuel := { x.fuel with errorRun := run, lastError := e } })
    if Config.senderFaultRun ≤ run then
      report s.conditions[b].senderFault true .senderFault b (some r.number) (.error e)
        (counted.modCond b (fun c => { c with senderFault := true }))
    else counted

/-! ## The probe chain (R110 to R112, R118) -/

/-- R110, R118: a PROBE result; the steps of R110 in their order (R125). -/
def probeResult (b : Bay) (resistance : Nat) (s : State) : State :=
  match s.recordAt b with
  | none => s
  | some r =>
    let coil := s.readCurve .probe r.settings.probeCurve resistance
    let written := s.modParked b (fun x => { x with
      probe := { x.probe with lastResistance := some resistance, errorRun := 0, coil := coil } })
    let cleared := (ceaseIf s.conditions[b].probeFault .probeFault b written).modCond b
      (fun c => { c with probeFault := false })
    match r.defrost.state, coil with
    | .heating _, some t => if r.settings.termination ≤ t then endHeating b r cleared else cleared
    | _, _ => cleared

/-- R111, R112: a PROBE error. -/
def probeError (b : Bay) (e : ErrorKind) (s : State) : State :=
  match s.recordAt b with
  | none => s
  | some r =>
    let run := bump Config.errorRunMax r.probe.errorRun
    let counted := s.modParked b (fun x => { x with probe := { x.probe with errorRun := run, lastError := e } })
    if Config.probeFaultRun ≤ run then
      report s.conditions[b].probeFault true .probeFault b (some r.number) (.error e)
        (counted.modCond b (fun c => { c with probeFault := true }))
    else counted

/-! ## Restart of the filter (R89, R107) -/

/-- R107: the conditions that a restart of the filter ends at a bay, FUEL_LOW before FUEL_DROP (R106). -/
def endFuelJudgements (b : Bay) (s : State) : State :=
  let c := s.conditions[b]
  (ceaseIf c.fuelDrop .fuelDrop b (ceaseIf c.fuelLow .fuelLow b s)).modCond b
    (fun x => { x with fuelLow := false, fuelDrop := false })

/-- R89, R107: the record's side of a restart of its filter. -/
def Record.restartFuel (r : Record) : Record := { r with fuel := { r.fuel with filtered := none, baseline := none } }

/-- R89, R113: the record's side of a change of its probe curve. -/
def Record.restartProbe (r : Record) : Record := { r with probe := { r.probe with coil := none } }

/-- R89: a record bound to the changed curve `c` is restarted on each count that binds it. -/
def Record.curveChanged (c : Fin 8) (r : Record) : Record :=
  let fueled := if r.settings.fuelCurve = some c then r.restartFuel else r
  if r.settings.probeCurve = some c then fueled.restartProbe else fueled

/-- R89: whether the record parked at a bay takes its fuel from curve `c`. -/
def State.fuelBound (s : State) (c : Fin 8) (b : Bay) : Bool :=
  match s.recordAt b with
  | some r => r.settings.fuelCurve == some c
  | none => false

/-- R89: every record bound to curve `c` is restarted; the conditions that end are reported in ascending bay order
(log 14). -/
def curveChanged (c : Fin 8) (s : State) : State :=
  forBays endFuelJudgements (allBays.filter (s.fuelBound c))
    { s with table := s.table.map (Option.map (Record.curveChanged c)) }

/-- R88, R90: curve `c` is replaced or emptied, and the records bound to it are restarted. -/
def storeCurve (c : Fin 8) (v : Option Curve) (s : State) : State :=
  curveChanged c { s with curves := s.curves.set c.val v }

/-! ## The events of a conversion -/

/-- R73: the result or error is handed to the chain that owns the channel's kind. -/
def deliverReading (ch : Channel) (reading : Reading) (s : State) : State :=
  match ch.kind, reading with
  | .fuel, .resistance r => fuelResult ch.bay r s
  | .fuel, .error e => fuelError ch.bay e s
  | .probe, .resistance r => probeResult ch.bay r s
  | .probe, .error e => probeError ch.bay e s

/-- R73, R81: a conversion completes: its reading is handed on, and the converter tests the next head. -/
def conversionDone (ch : Channel) (reading : Reading) (s : State) : State :=
  (deliverReading ch reading s).modConverter (Converter.takeNext s.timer.remaining)

/-- R69: REFERENCE ends where its counters come to with the oscillator at the frequency brought: with the timebase counter
at its limit the conversion ends with REFERENCE; else the cycle counter has wrapped, the timebase count is held as T, and
SENSOR begins. -/
def referenceEnd (rate : Nat) (s : State) : State :=
  match s.converter.stage with
  | .reference ch _ _ =>
    let brought := s.modOutside (Outside.putReference ch rate)
    match (s.converter.runOut brought.outside).stage with
    | .reference _ tb _ =>
      if Config.counterLimit ≤ tb then conversionDone ch (.error .reference) brought
      else brought.modConverter (Converter.enterSensor ch tb)
    | .idle => brought
    | .select _ => brought
    | .sensor _ _ _ _ => brought
  | .idle => s
  | .select _ => s
  | .sensor _ _ _ _ => s

/-- R70: SENSOR ends where its counters come to with the oscillator on the network brought, and the cycle count is
judged. -/
def sensorEnd (input : ChannelInput) (s : State) : State :=
  match s.converter.stage with
  | .sensor ch _ _ _ =>
    let brought := s.modOutside (Outside.putInput ch input)
    let c := s.converter.onNewNetwork (s.outside.network ch) (brought.outside.network ch)
    match (c.runOut brought.outside).stage with
    | .sensor _ _ _ cy => conversionDone ch (sensorReading ch.kind cy) brought
    | .idle => brought
    | .select _ => brought
    | .reference _ _ _ => brought
  | .idle => s
  | .select _ => s
  | .reference _ _ _ => s

/-- R80: whether the record at a bay is HEATING. -/
def State.heatingAt (s : State) (b : Bay) : Bool :=
  match s.recordAt b with
  | none => false
  | some r =>
    match r.defrost.state with
    | .heating _ => true
    | .idle => false
    | .waiting _ => false
    | .dripping => false

/-- R80: the sweep start. -/
def sweepStart (s : State) : State :=
  s.modConverter (Converter.sweepStart s.timer.number s.timer.remaining (allBays.filter s.heatingAt))

/-- The meaning of SELECT_END. -/
def execSelectEnd (s : State) : Host.Outcome State Fault Refusal :=
  whenRunning s (State.modConverter Converter.selectEnd)

/-- The meaning of REFERENCE_END. -/
def execReferenceEnd (rate : Nat) (s : State) : Host.Outcome State Fault Refusal := whenRunning s (referenceEnd rate)

/-- The meaning of SENSOR_END. -/
def execSensorEnd (input : ChannelInput) (s : State) : Host.Outcome State Fault Refusal :=
  whenRunning s (sensorEnd input)

end Sys2Proof.Machine
end

