-- ==== Sys2Proof/Machine/Records.lean ====
section
/-! DEFINITION. The host's commands on records and bays (R11, R16 to R22, R48 to R51, R54, R79, R122, R123) and on
curves (R88, R90, R91): each checks, acts, and forms its answer from the state its effects leave. -/

namespace Sys2Proof.Machine

/-! ## Settings of a record as written (R3, Tables 6 and 55) -/

/-- R3: a curve number as written: 0xFF is NONE, and a number above 7 is stored as 7. -/
def curveOf (v : Byte) : Option (Fin 8) := if v = 0xFF then none else some ⟨min 7 v.toNat, by omega⟩

/-- Table 57: the interval clock mode of a code. -/
def clockModeOf (v : Byte) : Option ClockMode :=
  match v.toNat with
  | 0 => some .wall
  | 1 => some .run
  | _ => none

/-- R17, R18: a settings mask with any of bits 12 to 15 set, or a given clock mode code that names no mode. -/
def settingsMalformed (a : SettingsArg) : Bool :=
  decide (4096 ≤ a.mask.toNat) || (a.gives 4 && (clockModeOf a.clockMode).isNone)

/-- R3: a numeric setting given is clamped and stored; one omitted keeps the value before. -/
def giveNat (given : Bool) (lo hi : Nat) (v before : Nat) : Nat := if given then clamp lo hi v else before

/-- R3, R17, R18: the settings after those given are stored over `x` (Table 6). -/
def applySettings (a : SettingsArg) (x : Settings) : Settings :=
  { fuelCurve := if a.gives 0 then curveOf a.fuelCurve else x.fuelCurve
    probeCurve := if a.gives 1 then curveOf a.probeCurve else x.probeCurve
    heaterLoad := giveNat (a.gives 2) 1 3 a.heaterLoad.toNat x.heaterLoad
    interval := giveNat (a.gives 3) 1 1440 a.interval.toNat x.interval
    clockMode := if a.gives 4 then (clockModeOf a.clockMode).getD x.clockMode else x.clockMode
    termination := if a.gives 5 then clampInt 0 250 a.termination.toInt else x.termination
    maxHeat := giveNat (a.gives 6) 60 3600 a.maxHeat.toNat x.maxHeat
    drip := giveNat (a.gives 7) 0 600 a.drip.toNat x.drip
    lowFuel := giveNat (a.gives 8) 0 20000 a.lowFuel.toNat x.lowFuel
    dropThreshold := giveNat (a.gives 9) 10 5000 a.dropThreshold.toNat x.dropThreshold
    doorRunning := giveNat (a.gives 10) 10 3600 a.doorRunning.toNat x.doorRunning
    doorStopped := giveNat (a.gives 11) 10 65535 a.doorStopped.toNat x.doorStopped }

/-! ## Records by number (R1, R11, R17 to R22) -/

/-- R24: the record of a trailer number, with its slot. -/
def State.named (s : State) (n : TrailerNo) : Option (SlotIx × Record) :=
  (s.slotOf n).bind (fun i => (s.table[i]).map (fun r => (i, r)))

/-- A command on a named record: N of 0 is BAD_VALUE, N in no record is NOT_FOUND. -/
def onNamed (n : TrailerNo) (work : SlotIx → Record → State × Answer) (s : State) : State × Answer :=
  if n = 0 then (s, refusal .badValue)
  else match s.named n with
    | none => (s, refusal .notFound)
    | some (i, r) => work i r

/-- R17: BOOK. -/
def book (n : TrailerNo) (a : SettingsArg) (s : State) : State × Answer :=
  if n = 0 ∨ settingsMalformed a = true then (s, refusal .badValue)
  else if (s.named n).isSome then (s, refusal .duplicate)
  else match s.freeSlot with
    | none => (s, refusal .full)
    | some i =>
      let x := applySettings a .default
      (s.putSlot i (some (Record.create n .booked x)), okay (wordBytes n ++ x.block))

/-- R19, Table 11: the record's side of an AMEND that leaves the settings `x`. A shorter interval lowers the count of a
PARKED record (log 16). -/
def Record.amend (x : Settings) (r : Record) : Record :=
  let fueled := if r.settings.fuelCurve = x.fuelCurve then r else r.restartFuel
  let probed := if r.settings.probeCurve = x.probeCurve then fueled else fueled.restartProbe
  let counted :=
    if r.place.bay?.isSome ∧ r.settings.interval ≠ x.interval then
      probed.modDefrost (fun d => { d with intervalCount := min d.intervalCount (x.interval * Config.intervalUnit) })
    else probed
  { counted with settings := x }

/-- R18, R19: AMEND. -/
def amend (n : TrailerNo) (a : SettingsArg) (s : State) : State × Answer :=
  if settingsMalformed a then (s, refusal .badValue)
  else onNamed n (fun i r =>
    let x := applySettings a r.settings
    let stored := s.putSlot i (some (r.amend x))
    let ended := match r.place.bay? with
      | some b => if r.settings.fuelCurve = x.fuelCurve then stored else endFuelJudgements b stored
      | none => stored
    (ended, okay (wordBytes n ++ x.block))) s

/-- R11: RETIRE. -/
def retire (n : TrailerNo) (s : State) : State × Answer :=
  onNamed n (fun i r =>
    match r.place with
    | .parked _ _ => (s, refusal .inUse)
    | .booked => (s.putSlot i none, okay [])
    | .departed _ _ _ => (s.putSlot i none, okay [])) s

/-- R126: the grant entry of a record, present while it is HEATING. -/
def State.grantOf (s : State) (r : Record) : Option Grant :=
  match r.place.bay?, r.defrost.state with
  | some b, .heating _ => s.feeder.grants.find? (fun g => g.bay == b)
  | _, _ => none

/-- R20: the answer that returns a record. -/
def recordAnswer (s : State) (r : Record) : Answer := okay (r.bytes (s.grantOf r))

/-- R20: LOOKUP by bay: the whole operand read as a number. -/
def lookupBay (op : Word) (s : State) : Answer :=
  if h : op.toNat < 16 then
    match s.recordAt ⟨op.toNat, h⟩ with
    | some r => recordAnswer s r
    | none => refusal .notFound
  else refusal .badValue

/-- R20: LOOKUP. -/
def lookup (selector : Byte) (op : Word) (s : State) : State × Answer :=
  match selector.toNat with
  | 0 => onNamed op (fun _ r => (s, recordAnswer s r)) s
  | 1 => (s, lookupBay op s)
  | _ => (s, refusal .badValue)

/-- R21: the numbers of the records in the lifecycle state of a code, ascending. -/
def numbersIn (s : State) (code : Nat) : List TrailerNo :=
  sortBy (fun x y : TrailerNo => decide (x.toNat < y.toNat))
    (allSlots.filterMap (fun i => (s.table[i]).bind (fun r => if r.place.code = code then some r.number else none)))

/-- R21: LIST. -/
def list (state : Byte) (s : State) : State × Answer :=
  if 1 ≤ state.toNat ∧ state.toNat ≤ 3 then
    let numbers := numbersIn s state.toNat
    (s, okay (byteNat numbers.length ++ numbers.flatMap wordBytes))
  else (s, refusal .badValue)

/-- R22, R101: REBASE. -/
def rebase (n : TrailerNo) (s : State) : State × Answer :=
  onNamed n (fun i r =>
    match r.fuel.filtered, r.fuel.baseline with
    | some f, some _ =>
      let based := s.putSlot i (some { r with fuel := { r.fuel with baseline := some f } })
      match r.place.bay? with
      | some b =>
        ((ceaseIf s.conditions[b].fuelDrop .fuelDrop b based).modCond b (fun c => { c with fuelDrop := false }), okay [])
      | none => (based, okay [])
    | _, _ => (s, refusal .wrongState)) s

/-! ## ASSIGN (R16) -/

/-- R16: whether ASSIGN can settle a bay: HELD for TAG_FAIL or CONFLICT. -/
def BayState.assignable : BayState → Bool
  | .held .tagFail => true
  | .held (.conflict _) => true
  | .held (.tableFull _) => false
  | .empty => false
  | .identifying => false
  | .serving => false
  | .fault => false
  | .disabled => false

/-- R16: ASSIGN at a bay of the row, for a number other than 0. -/
def assignAt (b : Bay) (n : TrailerNo) (s : State) : State × Answer :=
  if s.bays[b].state.assignable then
    match s.named n with
    | some (i, r) => if r.place.bay?.isSome then (s, refusal .inUse) else (park i r b s, okay [])
    | none =>
      match s.freeSlot with
      | some i => (park i (Record.create n .unbooked .default) b s, okay [])
      | none => (s, refusal .full)
  else (s, refusal .wrongState)

/-- A command on a bay: a number outside 0..15 is BAD_VALUE. -/
def onBay (bay : Byte) (work : Bay → State × Answer) (s : State) : State × Answer :=
  match bayOf bay with
  | some b => work b
  | none => (s, refusal .badValue)

/-- R16: ASSIGN. -/
def assign (bay : Byte) (n : TrailerNo) (s : State) : State × Answer :=
  onBay bay (fun b => if n = 0 then (s, refusal .badValue) else assignAt b n s) s

/-! ## Defrost commands (R122, R123) -/

/-- R122: a WAITING record's request is withdrawn. -/
def Record.withdrawRequest (r : Record) : DefrostFigures :=
  { r.defrost with state := .idle, intervalCount := r.intervalLoad }

/-- R122: DEFROST_STOP. Only a record parked at a bay is in WAITING or HEATING (R10, R120). -/
def defrostStop (n : TrailerNo) (s : State) : State × Answer :=
  onNamed n (fun i r =>
    match r.defrost.state with
    | .idle => (s, okay [])
    | .waiting _ => (s.putSlot i (some (r.modDefrost (fun _ => r.withdrawRequest))), okay [])
    | .heating _ =>
      match r.place.bay? with
      | some b => (endHeating b r s, okay [])
      | none => (s, okay [])
    | .dripping => (s, okay [])) s

/-- R123: DEFROST_NOW. -/
def defrostNow (n : TrailerNo) (s : State) : State × Answer :=
  onNamed n (fun i r =>
    if r.place.bay?.isSome then
      match r.defrost.state with
      | .idle =>
        (s.putSlot i (some (r.modDefrost (fun d => { d with state := .waiting .urgent, intervalCount := r.intervalLoad }))),
          okay [])
      | .waiting _ => (s.putSlot i (some (r.modDefrost (fun d => { d with state := .waiting .urgent }))), okay [])
      | .heating _ => (s, refusal .wrongState)
      | .dripping => (s, refusal .wrongState)
    else (s, refusal .wrongState)) s

/-! ## Bay commands (R48, R49, R51, R54, R79) -/

/-- R54: BAY_STATUS. -/
def bayStatus (bay : Byte) (s : State) : State × Answer :=
  onBay bay (fun b => (s, okay (bayBytes s.bays[b] s.doors[b] s.feeder.rank[b] (s.trailerAt b)))) s

/-- R51: BAY_ENABLE. -/
def bayEnable (bay : Byte) (s : State) : State × Answer := onBay bay (fun b => (enable b s, okay [])) s

/-- R49: BAY_DISABLE. -/
def bayDisable (bay : Byte) (s : State) : State × Answer := onBay bay (fun b => (disable b s, okay [])) s

/-- R48: CLEAR_FAULT. -/
def commandClearFault (bay : Byte) (s : State) : State × Answer :=
  onBay bay (fun b =>
    if s.bays[b].state = .fault then
      match s.doors[b].ovc with
      | .clear => (clearFault b s, okay [])
      | .tripped => (s, refusal .busy)
    else (s, refusal .wrongState)) s

/-- R79: SPOT. -/
def spot (bay kind : Byte) (s : State) : State × Answer :=
  onBay bay (fun b =>
    match channelKindOf kind with
    | none => (s, refusal .badValue)
    | some k =>
      let ch : Channel := { bay := b, kind := k }
      if s.bays[b].state ≠ .serving then (s, refusal .wrongState)
      else if s.converter.spot.contains ch then (s, okay [])
      else if s.converter.spot.length < Config.spotCapacity then (s.modConverter (Converter.appendSpot ch), okay [])
      else (s, refusal .busy)) s

/-! ## Curves (R88, R90, R91) -/

/-- A curve number in a message that is not a binding. -/
def curveIx (c : Byte) : Option (Fin 8) := if h : c.toNat < 8 then some ⟨c.toNat, h⟩ else none

/-- R88, Table 32: a point as clamped. A PROBE value is signed, every other number unsigned (R175). -/
def clampPoint (k : ChannelKind) (p : Word × Half) : Nat × Int :=
  match k with
  | .fuel => (clamp 0 30000 p.1.toNat, clampInt 0 20000 (p.2.toNat : Int))
  | .probe => (clamp 0 1000000 p.1.toNat, clampInt (-400) 1500 p.2.toInt)

/-- R87, R88: whether the resistances of points ascend strictly. -/
def ascending : List (Nat × Int) → Bool
  | [] => true
  | [_] => true
  | p :: q :: rest => decide (p.1 < q.1) && ascending (q :: rest)

/-- R88: CURVE_WRITE. -/
def curveWrite (curve kind count : Byte) (points : List (Word × Half)) (s : State) : State × Answer :=
  if points.length ≠ count.toNat then (s, refusal .badLength)
  else match curveIx curve, channelKindOf kind with
    | some c, some k =>
      let v : Curve := { kind := k, points := points.map (clampPoint k) }
      if 2 ≤ count.toNat ∧ count.toNat ≤ 9 ∧ ascending v.points = true then
        (storeCurve c (some v) s, okay (curveBytes c (some v)))
      else (s, refusal .badValue)
    | _, _ => (s, refusal .badValue)

/-- R91: CURVE_READ. -/
def curveRead (curve : Byte) (s : State) : State × Answer :=
  match curveIx curve with
  | some c => (s, okay (curveBytes c s.curves[c]))
  | none => (s, refusal .badValue)

/-- R90: CURVE_CLEAR. -/
def curveClear (curve : Byte) (s : State) : State × Answer :=
  match curveIx curve with
  | none => (s, refusal .badValue)
  | some c =>
    match s.curves[c] with
    | none => (s, okay [])
    | some _ => (storeCurve c none s, okay [])

end Sys2Proof.Machine
end

