-- ==== Sys2Proof/Machine/Settings.lean ====
section
/-! DEFINITION. SET and GET (R173): what each setting stores, clamps and does at once, and what it answers. -/

namespace Sys2Proof.Machine

/-! ## Round settings (R29, R30) -/

/-- R29: a stored offset that is not less than the new interval is lowered to the interval less 1. -/
def lowerOffset (interval offset : Nat) : Nat := if offset < interval then offset else interval - 1

/-- R29: the stored values after SET ROUND_MS. -/
def RoundSettings.setInterval (v : Nat) (x : RoundSettings) : RoundSettings :=
  let interval := clamp 500 2000 v
  { roundMs := interval, checkAt := lowerOffset interval x.checkAt, grantAt := lowerOffset interval x.grantAt,
    sweepAt := lowerOffset interval x.sweepAt }

/-- R30: an offset as stored. -/
def RoundSettings.offset (x : RoundSettings) (v : Nat) : Nat := min v (x.roundMs - 1)

/-- Change the stored round settings; those in force stand until the next round start (R29, R30). -/
def State.modStored (f : RoundSettings → RoundSettings) (s : State) : State :=
  s.modTimer (fun t => { t with stored := f t.stored })

/-! ## Other settings -/

/-- R44: POWER_GOOD_MS as stored: at most 700, to the nearest multiple of 100, halves up. -/
def storedPowerGood (v : Nat) : Nat := if Config.powerGoodMax < v then Config.powerGoodMax else (v + 50) / 100 * 100

/-- R151: SET SETTLE_ROUNDS lowers every settle count above the new value. -/
def setSettle (v : Nat) (s : State) : State :=
  { s with settleRounds := v, doors := s.doors.map (fun d => { d with settle := min d.settle v }) }

/-! ## GET and the echo of SET (R173) -/

/-- R129: the echo of FEEDER_UNITS. -/
def Feeder.echo (f : Feeder) : List Nat := [f.units, f.shed, Feeder.loadSum f.grants]

/-- R173: the values GET answers. -/
def settingValues (x : Setting) (s : State) : List Nat :=
  match x with
  | .roundMs => [s.timer.stored.roundMs]
  | .checkAt => [s.timer.stored.checkAt]
  | .grantAt => [s.timer.stored.grantAt]
  | .sweepAt => [s.timer.stored.sweepAt]
  | .reserveMs => [s.converter.reserveMs]
  | .fuelEvery => [s.converter.fuelEvery]
  | .probeEvery => [s.converter.probeEvery]
  | .settleRounds => [s.settleRounds]
  | .smoothShift => [s.smoothShift]
  | .feederUnits => s.feeder.echo
  | .sagLevel => [s.feeder.sagLevel]
  | .restoreRounds => [s.feeder.restoreRounds]
  | .powerGoodMs => [s.powerGoodMs]
  | .guard => [s.guard.code]
  | .resetCause => [s.resetCause.code]

/-- R173: the answer to GET of a setting. -/
def getAnswer (x : Setting) (s : State) : Answer := okay (settingAnswer x.code (settingValues x s))

/-- R173: the values SET echoes: ROUND_MS with the three offsets (R29), every other setting as GET. -/
def echoValues (x : Setting) (s : State) : List Nat :=
  match x with
  | .roundMs => [s.timer.stored.roundMs, s.timer.stored.checkAt, s.timer.stored.grantAt, s.timer.stored.sweepAt]
  | .checkAt | .grantAt | .sweepAt | .reserveMs | .fuelEvery | .probeEvery | .settleRounds => settingValues x s
  | .smoothShift | .feederUnits | .sagLevel | .restoreRounds | .powerGoodMs | .guard | .resetCause => settingValues x s

/-- R173: what SET of a setting does; none where the value is refused BAD_VALUE. -/
def storeSetting (x : Setting) (v : Nat) (s : State) : Option State :=
  match x with
  | .roundMs => some (s.modStored (RoundSettings.setInterval v))
  | .checkAt => some (s.modStored (fun t => { t with checkAt := t.offset v }))
  | .grantAt => some (s.modStored (fun t => { t with grantAt := t.offset v }))
  | .sweepAt => some (s.modStored (fun t => { t with sweepAt := t.offset v }))
  | .reserveMs => some (s.modConverter (fun c => { c with reserveMs := clamp 10 200 v }))
  | .fuelEvery => some (s.modConverter (Converter.setPeriod .fuel (clamp 1 600 v)))
  | .probeEvery => some (s.modConverter (Converter.setPeriod .probe (clamp 1 600 v)))
  | .settleRounds => some (setSettle (clamp 0 600 v) s)
  | .smoothShift => some { s with smoothShift := clamp 0 4 v }
  | .feederUnits => some (setFeederUnits (clamp 0 8 v) s)
  | .sagLevel => some (s.modFeeder (fun f => { f with sagLevel := clamp 0 15 v }))
  | .restoreRounds => some (s.modFeeder (fun f => { f with restoreRounds := clamp 1 600 v }))
  | .powerGoodMs => some { s with powerGoodMs := storedPowerGood v }
  | .guard => (guardOf v).map (fun g => { s with guard := g })
  | .resetCause => none

/-- R173: SET of a named setting. -/
def setNamed (x : Setting) (v : Nat) (s : State) : State × Answer :=
  match storeSetting x v s with
  | some t => (t, okay (settingAnswer x.code (echoValues x t)))
  | none => (s, refusal .badValue)

/-- R173: SET. -/
def set (code : Byte) (v : Word) (s : State) : State × Answer :=
  match settingOf code with
  | some x => setNamed x v.toNat s
  | none => (s, refusal .badValue)

/-- R173: GET. -/
def get (code : Byte) (s : State) : State × Answer :=
  match settingOf code with
  | some x => (s, getAnswer x s)
  | none => (s, refusal .badValue)

end Sys2Proof.Machine
end

