-- ==== Sys2Proof/Machine/Doors.lean ====
section
/-! DEFINITION. Socket sense sampling (R35, R37) and the door watch (R143 to R153): acceptance of the three lines, the
door figures, DOOR_LONG and DOOR_GUARD, and the record's copy. -/

namespace Sys2Proof.Machine

/-! ## Line acceptance (R144, Table 46) -/

/-- The level that a door state equals. -/
def DoorState.level : DoorState → Option Bool
  | .unknown => none
  | .shut => some true
  | .opened => some false

/-- The level that a run state equals. -/
def RunState.level : RunState → Option Bool
  | .unknown => none
  | .running => some true
  | .stopped => some false

/-- The level that an over-current state equals. -/
def OvcState.level : OvcState → Bool
  | .clear => true
  | .tripped => false

/-- The run state of a level. -/
def RunState.ofLevel (active : Bool) : RunState := if active then .running else .stopped

/-- The over-current state of a level. -/
def OvcState.ofLevel (closed : Bool) : OvcState := if closed then .clear else .tripped

/-- R144: the samples in a row that a sample of `level` completes, when it differs from the accepted state. -/
def Line.runWith (l : Line) (level : Bool) : Nat := if l.candidate = some level then l.run + 1 else 1

/-- R144: whether a sample is accepted. -/
def Line.accepts (accepted : Option Bool) (level : Bool) (l : Line) : Bool :=
  decide (accepted ≠ some level) && decide (Config.lineSamples ≤ l.runWith level)

/-- R144: the line after a sample. -/
def Line.sample (accepted : Option Bool) (level : Bool) (l : Line) : Line :=
  if accepted = some level ∨ Config.lineSamples ≤ l.runWith level then .none
  else { candidate := some level, run := l.runWith level }

/-! ## The record's copy (R152) -/

/-- R152: the door figures are mirrored into the record parked at the bay. -/
def mirror (b : Bay) (s : State) : State := s.modParked b (fun r => { r with door := s.doors[b].figures })

/-- Change a bay's door figures and the copy of them (R152). -/
def modFigures (b : Bay) (f : DoorFigures → DoorFigures) (s : State) : State :=
  mirror b (s.modDoor b (fun d => { d with figures := f d.figures }))

/-! ## Acceptances (R145 to R147, R150) -/

/-- R150: whether DOOR_GUARD is raised at an acceptance from SHUT to OPEN. -/
def Guard.onOpening : Guard → Bool
  | .off => false
  | .opening => true
  | .any => true

/-- R150: whether DOOR_GUARD is raised at an acceptance from OPEN to SHUT. -/
def Guard.onShutting : Guard → Bool
  | .off => false
  | .opening => false
  | .any => true

/-- R150: DOOR_GUARD is raised, if asked for. -/
def guardEvent (asked : Bool) (b : Bay) (s : State) : State :=
  if asked then raiseAt .doorGuard b (s.trailerAt b) none s else s

/-- R147: DOOR_LONG ceases, if present. -/
def endDoorLong (b : Bay) (s : State) : State :=
  (ceaseIf s.doors[b].doorLong .doorLong b s).modDoor b (fun d => { d with doorLong := false })

/-- Table 47, the two rows to OPEN. -/
def acceptOpen (b : Bay) (s : State) : State :=
  match s.doors[b].figures.state with
  | .shut =>
    guardEvent s.guard.onOpening b
      (modFigures b (fun f => { state := .opened, openings := bump Config.counterMax f.openings, openRounds := 0,
                                lastChange := some s.timer.number })
        (s.modDoor b (fun d => { d with settle := 0 })))
  | .unknown =>
    modFigures b (fun f => { f with state := .opened, openRounds := 0, lastChange := some s.timer.number }) s
  | .opened => s

/-- Table 47, the two rows to SHUT. -/
def acceptShut (b : Bay) (s : State) : State :=
  let shut (t : State) : State :=
    modFigures b (fun f => { f with state := .shut, lastChange := some s.timer.number })
      (t.modDoor b (fun d => { d with settle := s.settleRounds }))
  match s.doors[b].figures.state with
  | .opened => guardEvent s.guard.onShutting b (endDoorLong b (shut s))
  | .unknown => shut s
  | .shut => s

/-- R147: an acceptance on the door loop. -/
def acceptDoor (b : Bay) (closed : Bool) (s : State) : State :=
  let fresh := s.modDoor b (fun d => { d with doorLine := .none })
  if closed then acceptShut b fresh else acceptOpen b fresh

/-- R146: an acceptance on the unit run line. -/
def acceptRun (b : Bay) (active : Bool) (s : State) : State :=
  s.modDoor b (fun d => { d with run := .ofLevel active, runLine := .none })

/-- R145, R45, R47: an acceptance on the over-current relay line; TRIPPED at a SERVING bay is a trip. -/
def acceptOvc (b : Bay) (closed : Bool) (s : State) : State :=
  let accepted := s.modDoor b (fun d => { d with ovc := .ofLevel closed, ovcLine := .none })
  if closed = false ∧ s.bays[b].state = .serving then trip b accepted else accepted

/-! ## Rows of the acceptances (log 9)

An acceptance is of a watched bay and changes its accepted state, and the line stands at the level accepted; otherwise
there is none. -/

/-- DOOR_ACCEPTANCE (R147). -/
def doorAcceptance (b : Bay) (closed : Bool) (s : State) : State :=
  if s.bays[b].connected ∧ s.doors[b].figures.state.level ≠ some closed then
    acceptDoor b closed (s.modLines b (fun x => { x with door := closed }))
  else s

/-- RUN_ACCEPTANCE (R146). -/
def runAcceptance (b : Bay) (active : Bool) (s : State) : State :=
  if s.bays[b].connected ∧ s.doors[b].run.level ≠ some active then
    acceptRun b active (s.modLines b (fun x => { x with run := active }))
  else s

/-- OVERCURRENT_ACCEPTANCE (R145). -/
def overcurrentAcceptance (b : Bay) (closed : Bool) (s : State) : State :=
  if s.bays[b].connected ∧ s.doors[b].ovc.level ≠ closed then
    acceptOvc b closed (s.modLines b (fun x => { x with ovc := closed }))
  else s

/-- The meaning of DOOR_ACCEPTANCE. -/
def execDoorAcceptance (b : Bay) (closed : Bool) (s : State) : Host.Outcome State Fault Refusal :=
  whenRunning s (doorAcceptance b closed)

/-- The meaning of RUN_ACCEPTANCE. -/
def execRunAcceptance (b : Bay) (active : Bool) (s : State) : Host.Outcome State Fault Refusal :=
  whenRunning s (runAcceptance b active)

/-- The meaning of OVERCURRENT_ACCEPTANCE. -/
def execOvercurrentAcceptance (b : Bay) (closed : Bool) (s : State) : Host.Outcome State Fault Refusal :=
  whenRunning s (overcurrentAcceptance b closed)

/-! ## The line sample tick (R35, R37, R144) -/

/-- R37: a socket sense sample. -/
def senseSample (b : Bay) (level : Bool) (s : State) : State :=
  if level = s.bays[b].connected then s.modBay b (fun x => { x with differing := 0 })
  else if Config.senseSamples ≤ s.bays[b].differing + 1 then if level then connect b s else disconnect b s
  else s.modBay b (fun x => { x with differing := x.differing + 1 })

/-- R144: a door loop sample. -/
def doorSample (b : Bay) (level : Bool) (s : State) : State :=
  let d := s.doors[b]
  if d.doorLine.accepts d.figures.state.level level then acceptDoor b level s
  else s.modDoor b (fun x => { x with doorLine := d.doorLine.sample d.figures.state.level level })

/-- R144: a unit run sample. -/
def runSample (b : Bay) (level : Bool) (s : State) : State :=
  let d := s.doors[b]
  if d.runLine.accepts d.run.level level then acceptRun b level s
  else s.modDoor b (fun x => { x with runLine := d.runLine.sample d.run.level level })

/-- R144: an over-current relay sample. -/
def ovcSample (b : Bay) (level : Bool) (s : State) : State :=
  let d := s.doors[b]
  if d.ovcLine.accepts (some d.ovc.level) level then acceptOvc b level s
  else s.modDoor b (fun x => { x with ovcLine := d.ovcLine.sample (some d.ovc.level) level })

/-- R144: the three lines of a bay that is watched; in the order door, run, over-current (log 12). -/
def watchedSamples (b : Bay) (x : LineSample) (s : State) : State :=
  if s.bays[b].connected then ovcSample b x.ovc (runSample b x.run (doorSample b x.door s)) else s

/-- R35, R144: one bay at a tick. The tick that accepts a connect samples no other line of the bay; a disconnect taken
first leaves the bay unwatched (R45). -/
def bayTick (samples : Vector LineSample 16) (b : Bay) (s : State) : State :=
  let x := samples[b]
  if x.senseFirst then
    if s.bays[b].connected then watchedSamples b x (senseSample b x.sense s) else senseSample b x.sense s
  else senseSample b x.sense (watchedSamples b x s)

/-- R35: the next line sample tick comes: the lines stand at the levels sampled, and a tick follows 10 ms behind. -/
def takeTick (samples : Vector LineSample 16) (s : State) : State :=
  (s.modTimer (fun t => { t with tickUs := t.tickUs + Config.tickPeriod })).modOutside (fun o => { o with lines := samples })

/-- R35: a line sample tick, with the samples of every bay, taken in `order` (log 10). -/
def lineSampleTick (samples : Vector LineSample 16) (order : List Bay) (s : State) : State :=
  forBays (bayTick samples) (completeOrder order) (takeTick samples s)

/-- The meaning of LINE_SAMPLE_TICK. -/
def execLineSampleTick (samples : Vector LineSample 16) (order : List Bay) (s : State) :
    Host.Outcome State Fault Refusal :=
  whenRunning s (lineSampleTick samples order)

/-! ## The round start at a watched bay (R148, R149) -/

/-- R149: the limit that applies to a bay's open door. -/
def doorLimit (s : State) (b : Bay) : Nat :=
  match s.recordAt b with
  | none => Config.doorLimitNoRecord
  | some r =>
    match s.doors[b].run with
    | .running => r.settings.doorRunning
    | .stopped => r.settings.doorStopped
    | .unknown => r.settings.doorStopped

/-- R149: the judgement of DOOR_LONG. -/
def judgeDoorLong (b : Bay) (s : State) : State :=
  let f := s.doors[b].figures
  let long := f.state == .opened && decide (doorLimit s b ≤ f.openRounds)
  let judged := s.modDoor b (fun d => { d with doorLong := long })
  match s.doors[b].doorLong, long with
  | false, true => presentAt .doorLong b (s.trailerAt b) (some (.rounds f.openRounds)) judged
  | true, false => ceaseAt .doorLong b judged
  | true, true => s
  | false, false => s

/-- R148: open rounds and settle count of a watched bay at a round start. -/
def doorCounts (b : Bay) (s : State) : State :=
  match s.doors[b].figures.state with
  | .opened => modFigures b (fun f => { f with openRounds := bump Config.counterMax f.openRounds }) s
  | .shut => s.modDoor b (fun d => { d with settle := d.settle - 1 })
  | .unknown => s

/-- R148, R149: the round-start work of a bay's door watch. -/
def doorRound (b : Bay) (s : State) : State :=
  if s.bays[b].connected then judgeDoorLong b (doorCounts b s) else s

end Sys2Proof.Machine
end

