-- ==== Sys2Proof/Machine/Timer.lean ====
section
/-! DEFINITION. The round timer (R25 to R35): the round start with the round-start work of every block, and the
microsecond of the time base that an idle step runs. -/

namespace Sys2Proof.Machine

/-! ## The points of a round (R27, R28) -/

/-- The offset of a point. -/
def RoundSettings.pointAt (x : RoundSettings) : Point → Nat
  | .check => x.checkAt
  | .grant => x.grantAt
  | .sweep => x.sweepAt

/-- How a point stands. -/
def Points.get (x : Points) : Point → PointState
  | .check => x.check
  | .grant => x.grant
  | .sweep => x.sweep

/-- Put how a point stands. -/
def Points.put (p : Point) (v : PointState) (x : Points) : Points :=
  match p with
  | .check => { x with check := v }
  | .grant => { x with grant := v }
  | .sweep => { x with sweep := v }

/-- Whether a point of the round in progress has still to come. -/
def Timer.awaits (t : Timer) (p : Point) : Bool := t.points.get p == .outstanding

/-- The instant of a point in its round: round remaining is ROUND_MS less the offset, both in force (R27, R28). -/
def Timer.atPoint (p : Point) (t : Timer) : Timer :=
  { t with remaining := t.inForce.roundMs - t.inForce.pointAt p, points := t.points.put p .taken }

/-- The instant of the next round start, at which a point of offset 0 of the next round comes (R27). -/
def Timer.atPointAhead (p : Point) (t : Timer) : Timer :=
  { t with remaining := 0, points := t.points.put p .takenAhead }

/-- Of two points still to come the one with the smaller offset; of equal offsets the first named (log 26). -/
def Timer.earlier (t : Timer) (a b : Option Point) : Option Point :=
  match a, b with
  | some p, some q => if t.inForce.pointAt q < t.inForce.pointAt p then some q else some p
  | some p, none => some p
  | none, b => b

/-- A point, if it has still to come and its offset lies below `limit`. -/
def Timer.ahead (limit : Nat) (t : Timer) (p : Point) : Option Point :=
  if t.awaits p && decide (t.inForce.pointAt p < limit) then some p else none

/-- The next point of the round to come before the time `limit` into the round. -/
def Timer.nextPoint (limit : Nat) (t : Timer) : Option Point :=
  t.earlier (t.earlier (t.ahead limit .check) (t.ahead limit .grant)) (t.ahead limit .sweep)

/-- What the blocks do at a point: the feeder check, the grant walk, the sweep start. -/
def pointWork (p : Point) : State → State :=
  match p with
  | .check => checkPoint
  | .grant => grantPoint
  | .sweep => sweepStart

/-- R27: a point of the round comes at its instant. -/
def takePoint (p : Point) (s : State) : State := pointWork p (s.modTimer (Timer.atPoint p))

/-- R27: the next point of the round comes, if one lies before `limit`. -/
def passPoint (limit : Nat) (s : State) : State :=
  match s.timer.nextPoint limit with
  | some p => takePoint p s
  | none => s

/-- R27: the points of the round that lie before `limit` come, each at its instant. -/
def passPoints (limit : Nat) (s : State) : State := passPoint limit (passPoint limit (passPoint limit s))

/-- The row of a point (log 26): a point of the round comes at its instant, behind those that lie before it; one that has
come comes again only as the next round's, when its stored offset is 0, at the instant of that round's start, and only
once. -/
def pointRow (p : Point) (s : State) : State :=
  match s.timer.points.get p with
  | .outstanding => takePoint p (passPoints (s.timer.inForce.pointAt p) s)
  | .taken =>
    if s.timer.stored.pointAt p = 0 then
      pointWork p ((passPoints s.timer.inForce.roundMs s).modTimer (Timer.atPointAhead p))
    else s
  | .takenAhead => s

/-- The meaning of CHECK_POINT: FSENSE stands at the level it brings (R130). -/
def execCheckPoint (fsense : Nat) (s : State) : Host.Outcome State Fault Refusal :=
  whenRunning s (fun s => pointRow .check (s.modOutside (fun o => { o with fsense := fsense })))

/-- The meaning of GRANT_POINT. -/
def execGrantPoint (s : State) : Host.Outcome State Fault Refusal := whenRunning s (pointRow .grant)

/-- The meaning of SWEEP_START. -/
def execSweepStart (s : State) : Host.Outcome State Fault Refusal := whenRunning s (pointRow .sweep)

/-! ## The round start (R26) -/

/-- A point at a round start: it has still to come, unless it came at this instant (R27). -/
def PointState.renew : PointState → PointState
  | .outstanding => .outstanding
  | .taken => .outstanding
  | .takenAhead => .taken

/-- R26, R27: the round number advances, the stored settings come into force, round remaining is loaded, and the new
round's points have still to come. -/
def Timer.advance (t : Timer) : Timer :=
  { t with
    number := t.number + 1, inForce := t.stored, remaining := t.stored.roundMs
    points := { check := t.points.check.renew, grant := t.points.grant.renew, sweep := t.points.sweep.renew } }

/-- R75: one channel's countdown at the round start of a SERVING bay. -/
def Converter.countDownChannel (now : Round) (ch : Channel) (c : Converter) : Converter :=
  c.modChannel ch (Converter.countDown now (c.period ch.kind))

/-- R75: the round-start work of a bay's two channels. -/
def channelRound (b : Bay) (s : State) : State :=
  if s.bays[b].state = .serving then
    (s.modConverter (Converter.countDownChannel s.timer.number { bay := b, kind := .fuel })).modConverter
      (Converter.countDownChannel s.timer.number { bay := b, kind := .probe })
  else s

/-- The round-start work at one bay: channel countdowns (R75), the record's defrost count (R114 to R121), the retry of a
bay HELD for a full table (R15), and the door watch (R148, R149), in the order that R15 and R33 ask of a record parked
by the retry (log 11). -/
def bayRound (b : Bay) (s : State) : State := doorRound b (retry b (defrostRound b (channelRound b s)))

/-- R26, R82, R130: what the timer, the converter's sweep and the feeder comparator do at a round start. The comparator is
powered until the round's check point; where that came first at this instant, it stays unpowered (log 27). -/
def openRound (s : State) : State :=
  ((s.modTimer Timer.advance).modConverter Converter.closeSweep).modFeeder
    (fun f => { f with comparatorOn := s.timer.points.check != .takenAhead })

/-- R26: a round start, with the round-start work of every bay, taken in `order` (log 10). -/
def roundStart (order : List Bay) (s : State) : State := forBays bayRound (completeOrder order) (openRound s)

/-- R26, R27: the row of a round start: the points of the round that have still to come lie before it (log 26). -/
def roundStartRow (order : List Bay) (s : State) : State :=
  roundStart order (passPoints s.timer.inForce.roundMs s)

/-- The meaning of ROUND_START: the round-start work is taken whole (log 8). -/
def execRoundStart (order : List Bay) (s : State) : Host.Outcome State Fault Refusal :=
  whenRunning s (roundStartRow order)

/-- R75: CHANNEL_COUNTDOWN_EXPIRY: the countdown of a SERVING bay's channel stands one above its end (log 8). -/
def channelCountdownExpiry (b : Bay) (k : ChannelKind) (s : State) : State :=
  if s.bays[b].state = .serving ∧ (s.converter.channel { bay := b, kind := k }).countdown = 1 then
    s.modConverter (Converter.countDownChannel s.timer.number { bay := b, kind := k })
  else s

/-- The meaning of CHANNEL_COUNTDOWN_EXPIRY. -/
def execChannelCountdownExpiry (b : Bay) (k : ChannelKind) (s : State) : Host.Outcome State Fault Refusal :=
  whenRunning s (channelCountdownExpiry b k)

/-! ## The time base (log 3) -/

/-- R43: a power-good wait runs a millisecond; its end is an event of its own (log 4, log 18). -/
def BayCtl.millisecond (x : BayCtl) : BayCtl := { x with wait := x.wait.map (· - 1) }

/-- R28, R43: a millisecond of the time base. -/
def millisecond (s : State) : State :=
  { s.modTimer (fun t => { t with remaining := t.remaining - 1 }) with bays := s.bays.map BayCtl.millisecond }

/-- R28, R43, R55, R59, R68 to R70: a microsecond of the time base. -/
def microsecond (s : State) : State :=
  let now := s.timer.timeUs + 1
  let run := ((s.modTimer (fun t => { t with timeUs := now })).modConverter
    (Converter.run s.outside Config.ticksPerMicrosecond)).modReader (Reader.tick now)
  if now % 1000 = 0 then millisecond run else run

/-! ## What the time base brings (log 3) -/

/-- The row of a point, with FSENSE as it stands. -/
def Point.row (fsense : Nat) : Point → Instr
  | .check => .checkPoint fsense
  | .grant => .grantPoint
  | .sweep => .sweepStart

/-- R26 to R28: the event of the round timer whose instant has come: a point at its offset, or the round start with round
remaining at 0. -/
def roundEvent (s : State) : Option Instr :=
  match s.timer.nextPoint (s.timer.inForce.roundMs - s.timer.remaining + 1) with
  | some p => some (p.row s.outside.fsense)
  | none => if s.timer.remaining = 0 then some (.roundStart []) else none

/-- R68 to R70: the event of the converter whose instant has come, with what stands outside as it stands. -/
def converterEvent (o : Outside) (c : Converter) : Option Instr :=
  match c.stage with
  | .idle => none
  | .select _ => if c.settle = 0 then some .selectEnd else none
  | .reference ch tb cy => if c.referenceTicks (o.onReference ch) tb cy = 0 then some (.referenceEnd (o.referenceRate ch)) else none
  | .sensor ch _ tb cy => if c.sensorTicks (o.onNetwork ch) tb cy = 0 then some (.sensorEnd (o.input ch)) else none

/-- R58, R59, R65: the level at which the head's tag line stands; without a head there is none, and nobody pulls low. -/
def headLine (s : State) : Bool := (s.reader.queue.head?.map (fun b => s.outside.tags[b])).getD true

/-- R58, R59, R62, R63: the event of the tag reader whose instant has come, with the head's line as it stands. -/
def readerEvent (s : State) : Option Instr := s.reader.due s.timer.timeUs (headLine s)

/-- R43: the end of a power-good wait that has run out, of the lowest bay. -/
def waitEvent (s : State) : Option Instr :=
  (allBays.find? (fun b => s.bays[b].wait == some 0)).map .powerGoodWaitEnd

/-- R35: the line sample tick whose instant has come, with the lines as they stand. -/
def tickEvent (s : State) : Option Instr :=
  if s.timer.tickUs ≤ s.timer.timeUs then some (.lineSampleTick s.outside.lines []) else none

/-- The event that the time base alone has brought and that has not been taken; of several at one instant the round
timer's, the converter's, the reader's, the bays', then the line sample tick (log 3). None comes during a reset (R32,
R35). -/
def dueEvent (s : State) : Option Instr :=
  match s.resetting with
  | some _ => none
  | none =>
    (roundEvent s).or ((converterEvent s.outside s.converter).or
      ((readerEvent s).or ((waitEvent s).or (tickEvent s))))

/-- The time base runs a microsecond, but not during a reset (R35, R174; log 3). -/
def idleTick (s : State) : State :=
  match s.resetting with
  | none => microsecond s
  | some _ => s

end Sys2Proof.Machine
end

