-- ==== Sys2Proof/Machine/Link.lean ====
section
/-! DEFINITION. The host link (R168 to R172) and the resets (R174): the receiver, the taking of commands and their
answers, and how a reset begins and ends. -/

namespace Sys2Proof.Machine

/-! ## Carrying out a request (R172) -/

/-- R172: a request of a known code and a right length is carried out by its own rule. -/
def runRequest (r : Request) (s : State) : State × Answer :=
  match r with
  | .book n a => book n a s
  | .amend n a => amend n a s
  | .retire n => retire n s
  | .lookup sel op => lookup sel op s
  | .list st => list st s
  | .assign b n => assign b n s
  | .rebase n => rebase n s
  | .defrostNow n => defrostNow n s
  | .defrostStop n => defrostStop n s
  | .bayStatus b => bayStatus b s
  | .bayEnable b => bayEnable b s
  | .bayDisable b => bayDisable b s
  | .clearFault b => commandClearFault b s
  | .spot b k => spot b k s
  | .curveWrite c k n pts => curveWrite c k n pts s
  | .curveRead c => curveRead c s
  | .curveClear c => curveClear c s
  | .set x v => set x v s
  | .get x => get x s
  | .routeSet k m c => routeSet k m c s
  | .routeRead k => routeRead k s
  | .take => take s
  | .ack k p => ack k p s
  | .reset => (s, okay [])

/-- R174: whether the answer of a request is followed by the command reset. -/
def Request.arms : Request → Bool
  | .reset => true
  | .book _ _ | .amend _ _ | .retire _ | .lookup _ _ | .list _ | .assign _ _ | .rebase _ | .defrostNow _ => false
  | .defrostStop _ | .bayStatus _ | .bayEnable _ | .bayDisable _ | .clearFault _ | .spot _ _ => false
  | .curveWrite _ _ _ _ | .curveRead _ | .curveClear _ | .set _ _ | .get _ => false
  | .routeSet _ _ _ | .routeRead _ | .take | .ack _ _ => false

/-- R171: the transmitter enters SENDING with the response frame. -/
def Link.send (code : Byte) (a : Answer) (arms : Bool) (l : Link) : Link :=
  { l with transmitter := .sending (frameOf (a.payload code)), resetArmed := arms }

/-- R171: a request is taken whole, and its answer is formed from the state its effects leave. -/
def takeRequest (r : Request) (s : State) : State :=
  let out := runRequest r s
  out.1.modLink (Link.send r.code out.2 r.arms)

/-- R172: the first two checks on the payload of a frame taken; the codes of Table 55 fill the first byte. A payload has
at least one byte (R169). -/
def parse : List Byte → Parsed
  | [] => .unknownCommand 0
  | code :: operands => parseOperands code operands

/-- R171, R172: the command of a payload is taken. -/
def takePayload (payload : List Byte) (s : State) : State :=
  match parse payload with
  | .request r => takeRequest r s
  | .unknownCommand code => s.modLink (Link.send code (refusal .unknownCommand) false)
  | .badLength code => s.modLink (Link.send code (refusal .badLength) false)

/-! ## The receive buffer (R171) -/

/-- R171: what an accepted frame meets: taken at once, held, or discarded. -/
def meetFrame (payload : List Byte) (taken : State → State) (s : State) : State :=
  match s.link.transmitter with
  | .idle => taken s
  | .sending _ =>
    match s.link.buffer with
    | none => s.modLink (fun l => { l with buffer := some payload })
    | some _ => s

/-- R171: an accepted frame. -/
def acceptFrame (payload : List Byte) (s : State) : State := meetFrame payload (takePayload payload) s

/-- R171: the accepted frame of a well-formed request, as the host command rows send it (log 7). -/
def hostRequest (r : Request) (s : State) : State := meetFrame r.payload (takeRequest r) s

/-- R170: a complete frame is accepted when its CHECK matches, and discarded otherwise. -/
def completeFrame (payload : List Byte) (check : Half) (s : State) : State :=
  if checkOf payload = check then acceptFrame payload s else s

/-! ## The receiver (R169) -/

/-- The receiver returns to HUNT. -/
def Link.hunt (l : Link) : Link := { l with receiver := .hunt }

/-- R169: a byte stored in BODY; with the payload and both CHECK bytes stored the frame is complete. CHECK comes low byte
first (R170). -/
def bodyByte (expected : Nat) (stored : List Byte) (s : State) : State :=
  if stored.length < expected + 2 then s.modLink (fun l => { l with receiver := .body expected stored })
  else
    completeFrame (stored.take expected)
      (joinHalf (stored.getD expected 0) (stored.getD (expected + 1) 0)) (s.modLink Link.hunt)

/-- R169: a byte with a good stop bit reaches the receiver. -/
def receiveByte (v : Byte) (s : State) : State :=
  match s.link.receiver with
  | .hunt => if v = Config.sync then s.modLink (fun l => { l with receiver := .length }) else s
  | .length =>
    if 1 ≤ v.toNat ∧ v.toNat ≤ Config.maxPayload then s.modLink (fun l => { l with receiver := .body v.toNat [] })
    else s.modLink Link.hunt
  | .body expected stored => bodyByte expected (stored ++ [v]) s

/-- R169, R170: a complete frame arrives: the receiver is in HUNT behind it. A frame whose LENGTH cannot be has been
abandoned (R169). -/
def frameArrives (payload : List Byte) (check : Half) (s : State) : State :=
  if framePayloadOk payload.length then completeFrame payload check (s.modLink Link.hunt) else s.modLink Link.hunt

/-- R169: a byte whose stop bit is low abandons a frame in progress. In HUNT, of which the rule does not speak, such a byte is
ignored, be it 0x5A (log 28). -/
def abandonFrame (s : State) : State := s.modLink Link.hunt

/-- R169: more than 10 ms without a byte abandon a frame in progress. -/
def gapTimeout (s : State) : State := s.modLink Link.hunt

/-- The meaning of BYTE_RECEIVED. -/
def execByteReceived (v : Byte) (s : State) : Host.Outcome State Fault Refusal := whenRunning s (receiveByte v)

/-- The meaning of FRAME_ACCEPTED. -/
def execFrameAccepted (payload : List Byte) (check : Half) (s : State) : Host.Outcome State Fault Refusal :=
  whenRunning s (frameArrives payload check)

/-- The meaning of FRAME_ABANDONED. -/
def execFrameAbandoned (s : State) : Host.Outcome State Fault Refusal := whenRunning s abandonFrame

/-- The meaning of FRAME_GAP_TIMEOUT. -/
def execFrameGapTimeout (s : State) : Host.Outcome State Fault Refusal := whenRunning s gapTimeout

/-! ## Resets (R174) -/

/-- R174: a reset begins: every block is at its reset values. RESET_CAUSE is written at its end, and neither
what stands outside nor the model's queue of commands is part of the chip. -/
def beginReset (cause : ResetCause) (s : State) : State :=
  { State.reset with outside := s.outside, resetting := some cause, resetCause := s.resetCause, pending := s.pending }

/-- R174, R32: a reset ends: RESET_CAUSE is written and the first round start occurs. -/
def endReset (cause : ResetCause) (s : State) : State :=
  roundStart [] { s with resetting := none, resetCause := cause }

/-- R171: the transmitter is IDLE, and the frame held, if there is one, is taken out of the buffer. -/
def Link.free (l : Link) : Link := { l with transmitter := .idle, buffer := none }

/-- R171, R174: the stop bit of an answer's last byte ends: the frame held is taken, or the command reset begins behind
the answer of RESET (log 22). With no answer being sent there is no such end. -/
def answerSent (s : State) : State :=
  match s.link.transmitter with
  | .idle => s
  | .sending _ =>
    if s.link.resetArmed then beginReset .command s
    else
      match s.link.buffer with
      | none => s.modLink Link.free
      | some payload => takePayload payload (s.modLink Link.free)

/-- The meaning of ANSWER_SENT. -/
def execAnswerSent (s : State) : Host.Outcome State Fault Refusal := whenRunning s answerSent

/-- R174: the command reset begins as the answer of RESET ends; without that answer being sent it does not
(log 22). -/
def commandReset (s : State) : State :=
  match s.link.transmitter with
  | .idle => s
  | .sending _ => if s.link.resetArmed then beginReset .command s else s

/-- The meaning of COMMAND_RESET. -/
def execCommandReset (s : State) : Host.Outcome State Fault Refusal := whenRunning s commandReset

/-- R174: the supply rises through 3.0 V. -/
def powerOnReset (s : State) : State := beginReset .power s

/-- The meaning of POWER_ON_RESET, which no reset in progress holds back. -/
def execPowerOnReset (s : State) : Host.Outcome State Fault Refusal := .next (powerOnReset s)

/-- R174: RESETN has been low for 1 ms: a power-on reset in progress stays one, any other becomes a pin reset. -/
def pinReset (s : State) : State :=
  match s.resetting with
  | some .power => s
  | some .pin => beginReset .pin s
  | some .command => beginReset .pin s
  | none => beginReset .pin s

/-- The meaning of PIN_RESET, which no reset in progress holds back. -/
def execPinReset (s : State) : Host.Outcome State Fault Refusal := .next (pinReset s)

/-- R174, R32: the reset in progress ends; with none in progress there is no end. -/
def resetEnd (s : State) : State :=
  match s.resetting with
  | some cause => endReset cause s
  | none => s

/-- The meaning of RESET_END. -/
def execResetEnd (s : State) : Host.Outcome State Fault Refusal := .next (resetEnd s)

end Sys2Proof.Machine
end

