-- ==== Sys2Proof/Machine/Commands.lean ====
section
/-! DEFINITION. The meanings of the host command rows. Each is the accepted frame of its request, taken, held or
discarded as R171 says (log 7); the effects and answers are in Records.lean, Settings.lean and Notify.lean. -/

namespace Sys2Proof.Machine

/-- The meaning of BOOK (R17). -/
def execBook (number : TrailerNo) (settings : SettingsArg) (s : State) : Host.Outcome State Fault Refusal :=
  whenRunning s (hostRequest (.book number settings))

/-- The meaning of AMEND (R18, R19). -/
def execAmend (number : TrailerNo) (settings : SettingsArg) (s : State) : Host.Outcome State Fault Refusal :=
  whenRunning s (hostRequest (.amend number settings))

/-- The meaning of RETIRE (R11). -/
def execRetire (number : TrailerNo) (s : State) : Host.Outcome State Fault Refusal :=
  whenRunning s (hostRequest (.retire number))

/-- The meaning of LOOKUP (R20). -/
def execLookup (selector : Byte) (operand : Word) (s : State) : Host.Outcome State Fault Refusal :=
  whenRunning s (hostRequest (.lookup selector operand))

/-- The meaning of LIST (R21). -/
def execList (state : Byte) (s : State) : Host.Outcome State Fault Refusal := whenRunning s (hostRequest (.list state))

/-- The meaning of ASSIGN (R16). -/
def execAssign (bay : Byte) (number : TrailerNo) (s : State) : Host.Outcome State Fault Refusal :=
  whenRunning s (hostRequest (.assign bay number))

/-- The meaning of REBASE (R22, R101). -/
def execRebase (number : TrailerNo) (s : State) : Host.Outcome State Fault Refusal :=
  whenRunning s (hostRequest (.rebase number))

/-- The meaning of DEFROST_NOW (R123). -/
def execDefrostNow (number : TrailerNo) (s : State) : Host.Outcome State Fault Refusal :=
  whenRunning s (hostRequest (.defrostNow number))

/-- The meaning of DEFROST_STOP (R122). -/
def execDefrostStop (number : TrailerNo) (s : State) : Host.Outcome State Fault Refusal :=
  whenRunning s (hostRequest (.defrostStop number))

/-- The meaning of BAY_STATUS (R54). -/
def execBayStatus (bay : Byte) (s : State) : Host.Outcome State Fault Refusal :=
  whenRunning s (hostRequest (.bayStatus bay))

/-- The meaning of BAY_ENABLE (R51). -/
def execBayEnable (bay : Byte) (s : State) : Host.Outcome State Fault Refusal :=
  whenRunning s (hostRequest (.bayEnable bay))

/-- The meaning of BAY_DISABLE (R49). -/
def execBayDisable (bay : Byte) (s : State) : Host.Outcome State Fault Refusal :=
  whenRunning s (hostRequest (.bayDisable bay))

/-- The meaning of CLEAR_FAULT (R48). -/
def execClearFault (bay : Byte) (s : State) : Host.Outcome State Fault Refusal :=
  whenRunning s (hostRequest (.clearFault bay))

/-- The meaning of SPOT (R79). -/
def execSpot (bay kind : Byte) (s : State) : Host.Outcome State Fault Refusal :=
  whenRunning s (hostRequest (.spot bay kind))

/-- The meaning of CURVE_WRITE (R88). No frame carries more than 41 points (R169), so a longer list reaches nothing. -/
def execCurveWrite (curve kind count : Byte) (points : List (Word × Half)) (s : State) :
    Host.Outcome State Fault Refusal :=
  whenRunning s (fun t =>
    if points.length ≤ Config.maxFramePoints then hostRequest (.curveWrite curve kind count points) t else t)

/-- The meaning of CURVE_READ (R91). -/
def execCurveRead (curve : Byte) (s : State) : Host.Outcome State Fault Refusal :=
  whenRunning s (hostRequest (.curveRead curve))

/-- The meaning of CURVE_CLEAR (R90). -/
def execCurveClear (curve : Byte) (s : State) : Host.Outcome State Fault Refusal :=
  whenRunning s (hostRequest (.curveClear curve))

/-- The meaning of SET of ROUND_MS (R29). -/
def execSetRoundMs (value : Word) (s : State) : Host.Outcome State Fault Refusal :=
  whenRunning s (hostRequest (.set (Setting.code .roundMs) value))

/-- The meaning of SET of CHECK_AT (R30). -/
def execSetCheckAt (value : Word) (s : State) : Host.Outcome State Fault Refusal :=
  whenRunning s (hostRequest (.set (Setting.code .checkAt) value))

/-- The meaning of SET of GRANT_AT (R30). -/
def execSetGrantAt (value : Word) (s : State) : Host.Outcome State Fault Refusal :=
  whenRunning s (hostRequest (.set (Setting.code .grantAt) value))

/-- The meaning of SET of SWEEP_AT (R30). -/
def execSetSweepAt (value : Word) (s : State) : Host.Outcome State Fault Refusal :=
  whenRunning s (hostRequest (.set (Setting.code .sweepAt) value))

/-- The meaning of SET of RESERVE_MS (R83). -/
def execSetReserveMs (value : Word) (s : State) : Host.Outcome State Fault Refusal :=
  whenRunning s (hostRequest (.set (Setting.code .reserveMs) value))

/-- The meaning of SET of FUEL_EVERY (R77). -/
def execSetFuelEvery (value : Word) (s : State) : Host.Outcome State Fault Refusal :=
  whenRunning s (hostRequest (.set (Setting.code .fuelEvery) value))

/-- The meaning of SET of PROBE_EVERY (R77). -/
def execSetProbeEvery (value : Word) (s : State) : Host.Outcome State Fault Refusal :=
  whenRunning s (hostRequest (.set (Setting.code .probeEvery) value))

/-- The meaning of SET of SETTLE_ROUNDS (R151). -/
def execSetSettleRounds (value : Word) (s : State) : Host.Outcome State Fault Refusal :=
  whenRunning s (hostRequest (.set (Setting.code .settleRounds) value))

/-- The meaning of SET of SMOOTH_SHIFT (R99). -/
def execSetSmoothShift (value : Word) (s : State) : Host.Outcome State Fault Refusal :=
  whenRunning s (hostRequest (.set (Setting.code .smoothShift) value))

/-- The meaning of SET of FEEDER_UNITS (R129, R141). -/
def execSetFeederUnits (value : Word) (s : State) : Host.Outcome State Fault Refusal :=
  whenRunning s (hostRequest (.set (Setting.code .feederUnits) value))

/-- The meaning of SET of SAG_LEVEL (R130). -/
def execSetSagLevel (value : Word) (s : State) : Host.Outcome State Fault Refusal :=
  whenRunning s (hostRequest (.set (Setting.code .sagLevel) value))

/-- The meaning of SET of RESTORE_ROUNDS (R133). -/
def execSetRestoreRounds (value : Word) (s : State) : Host.Outcome State Fault Refusal :=
  whenRunning s (hostRequest (.set (Setting.code .restoreRounds) value))

/-- The meaning of SET of POWER_GOOD_MS (R44). -/
def execSetPowerGoodMs (value : Word) (s : State) : Host.Outcome State Fault Refusal :=
  whenRunning s (hostRequest (.set (Setting.code .powerGoodMs) value))

/-- The meaning of SET of GUARD (R150). -/
def execSetGuard (value : Word) (s : State) : Host.Outcome State Fault Refusal :=
  whenRunning s (hostRequest (.set (Setting.code .guard) value))

/-- The meaning of SET naming RESET_CAUSE (R173). -/
def execSetResetCause (value : Word) (s : State) : Host.Outcome State Fault Refusal :=
  whenRunning s (hostRequest (.set (Setting.code .resetCause) value))

/-- The meaning of GET (R173). -/
def execGet (setting : Byte) (s : State) : Host.Outcome State Fault Refusal :=
  whenRunning s (hostRequest (.get setting))

/-- The meaning of ROUTE_SET (R164, R165). -/
def execRouteSet (kind mask cls : Byte) (s : State) : Host.Outcome State Fault Refusal :=
  whenRunning s (hostRequest (.routeSet kind mask cls))

/-- The meaning of ROUTE_READ (R156). -/
def execRouteRead (kind : Byte) (s : State) : Host.Outcome State Fault Refusal :=
  whenRunning s (hostRequest (.routeRead kind))

/-- The meaning of TAKE (R162). -/
def execTake (s : State) : Host.Outcome State Fault Refusal := whenRunning s (hostRequest .take)

/-- The meaning of ACK (R163). -/
def execAck (kind position : Byte) (s : State) : Host.Outcome State Fault Refusal :=
  whenRunning s (hostRequest (.ack kind position))

/-- The meaning of RESET (R174). -/
def execReset (s : State) : Host.Outcome State Fault Refusal := whenRunning s (hostRequest .reset)

end Sys2Proof.Machine
end

