-- ==== Sys2Proof/Machine/Tags.lean ====
section
/-! DEFINITION. The events of the tag reader (R58 to R63) and the delivery of its outcomes to the trailer table. -/

namespace Sys2Proof.Machine

/-- R63: an outcome for the head bay: the head leaves the queue, the reader takes the next head (R57), and the trailer
table decides (R12, R13). -/
def deliverOutcome (outcome : Option TrailerNo) (s : State) : State :=
  match s.reader.queue.head? with
  | none => s
  | some b =>
    let freed := s.modReader (Reader.deliver s.timer.timeUs)
    match outcome with
    | some n => matchNumber b n freed
    | none => hold b .tagFail freed

/-- A row brings the level at which the head's tag line stands (R58, R59; log 4). -/
def bringHeadLine (high : Bool) (s : State) : State :=
  match s.reader.queue.head? with
  | none => s
  | some b => s.setTagLine b high

/-- R58: the end of the wake pulse. -/
def wakeEnd (s : State) : State := s.modReader (Reader.wakeEnd s.timer.timeUs)

/-- R58: the head's line is seen low in the presence window, which has not closed. -/
def presenceSeen (s : State) : State :=
  if s.reader.recognises s.timer.timeUs then
    (bringHeadLine false s).modReader (Reader.presenceSeen s.timer.timeUs)
  else s

/-- R59, R60: the sample of a bit slot of the head's line, while one of the forty has still to come. -/
def bitSlotSample (high : Bool) (s : State) : State :=
  match s.reader.nextSample with
  | some at' => (bringHeadLine high s).modReader (Reader.sampleBit s.timer.timeUs at' high)
  | none => s

/-- R63: the end of the spacing. -/
def spacingEnd (s : State) : State := s.modReader (Reader.spacingEnd s.timer.timeUs)

/-- R63: an attempt fails: TAG_FAIL after the third, else the reader waits for the next attempt. -/
def attemptFails (number start : Nat) (s : State) : State :=
  if Config.attemptMax ≤ number then deliverOutcome none s else s.modReader (Reader.enterSpacing number start)

/-- R58: the presence window closes, 900 us into the attempt, with the line high: NO_TAG. -/
def presenceWindowClose (s : State) : State :=
  match s.reader.state with
  | .attempt n start .presence =>
    attemptFails n start ((bringHeadLine true s).modReader
      (Reader.bringTo s.timer.timeUs (start + Config.presenceClose)))
  | .attempt _ _ .wake => s
  | .attempt _ _ (.bits _ _ _ _ _) => s
  | .idle => s
  | .spacing _ _ => s

/-- R62: the end of slot 39: the frame is judged. Before five bytes are stored there is no such end. -/
def attemptJudged (s : State) : State :=
  match s.reader.state with
  | .attempt n start (.bits began _ _ _ bytes) =>
    if bytes.length < 5 then s
    else
      match Reader.judge bytes with
      | some number => deliverOutcome (some number) s
      | none =>
        attemptFails n start (s.modReader (Reader.bringTo s.timer.timeUs (Reader.lastSlotEnd began)))
  | .attempt _ _ .wake => s
  | .attempt _ _ .presence => s
  | .idle => s
  | .spacing _ _ => s

/-- The meaning of WAKE_END. -/
def execWakeEnd (s : State) : Host.Outcome State Fault Refusal := whenRunning s wakeEnd

/-- The meaning of PRESENCE_SEEN. -/
def execPresenceSeen (s : State) : Host.Outcome State Fault Refusal := whenRunning s presenceSeen

/-- The meaning of PRESENCE_WINDOW_CLOSE. -/
def execPresenceWindowClose (s : State) : Host.Outcome State Fault Refusal := whenRunning s presenceWindowClose

/-- The meaning of BIT_SLOT_SAMPLE. -/
def execBitSlotSample (high : Bool) (s : State) : Host.Outcome State Fault Refusal :=
  whenRunning s (bitSlotSample high)

/-- The meaning of ATTEMPT_JUDGED. -/
def execAttemptJudged (s : State) : Host.Outcome State Fault Refusal := whenRunning s attemptJudged

/-- The meaning of SPACING_END. -/
def execSpacingEnd (s : State) : Host.Outcome State Fault Refusal := whenRunning s spacingEnd

end Sys2Proof.Machine
end

