-- ==== Sys2Proof/Machine/Dispatch.lean ====
section
/-! DEFINITION. The meaning of each command: one arm for each row of the opcode table. -/

namespace Sys2Proof.Machine

/-- What a command does to everything but the queue. -/
def exec (i : Instr) (s : State) : Host.Outcome State Fault Refusal :=
  match i with
  | .book number settings => Sys2Proof.Machine.execBook number settings s
  | .amend number settings => Sys2Proof.Machine.execAmend number settings s
  | .retire number => Sys2Proof.Machine.execRetire number s
  | .lookup selector operand => Sys2Proof.Machine.execLookup selector operand s
  | .list state => Sys2Proof.Machine.execList state s
  | .assign bay number => Sys2Proof.Machine.execAssign bay number s
  | .rebase number => Sys2Proof.Machine.execRebase number s
  | .defrostNow number => Sys2Proof.Machine.execDefrostNow number s
  | .defrostStop number => Sys2Proof.Machine.execDefrostStop number s
  | .bayStatus bay => Sys2Proof.Machine.execBayStatus bay s
  | .bayEnable bay => Sys2Proof.Machine.execBayEnable bay s
  | .bayDisable bay => Sys2Proof.Machine.execBayDisable bay s
  | .clearFault bay => Sys2Proof.Machine.execClearFault bay s
  | .spot bay kind => Sys2Proof.Machine.execSpot bay kind s
  | .curveWrite curve kind count points => Sys2Proof.Machine.execCurveWrite curve kind count points s
  | .curveRead curve => Sys2Proof.Machine.execCurveRead curve s
  | .curveClear curve => Sys2Proof.Machine.execCurveClear curve s
  | .setRoundMs value => Sys2Proof.Machine.execSetRoundMs value s
  | .setCheckAt value => Sys2Proof.Machine.execSetCheckAt value s
  | .setGrantAt value => Sys2Proof.Machine.execSetGrantAt value s
  | .setSweepAt value => Sys2Proof.Machine.execSetSweepAt value s
  | .setReserveMs value => Sys2Proof.Machine.execSetReserveMs value s
  | .setFuelEvery value => Sys2Proof.Machine.execSetFuelEvery value s
  | .setProbeEvery value => Sys2Proof.Machine.execSetProbeEvery value s
  | .setSettleRounds value => Sys2Proof.Machine.execSetSettleRounds value s
  | .setSmoothShift value => Sys2Proof.Machine.execSetSmoothShift value s
  | .setFeederUnits value => Sys2Proof.Machine.execSetFeederUnits value s
  | .setSagLevel value => Sys2Proof.Machine.execSetSagLevel value s
  | .setRestoreRounds value => Sys2Proof.Machine.execSetRestoreRounds value s
  | .setPowerGoodMs value => Sys2Proof.Machine.execSetPowerGoodMs value s
  | .setGuard value => Sys2Proof.Machine.execSetGuard value s
  | .setResetCause value => Sys2Proof.Machine.execSetResetCause value s
  | .get setting => Sys2Proof.Machine.execGet setting s
  | .routeSet kind mask cls => Sys2Proof.Machine.execRouteSet kind mask cls s
  | .routeRead kind => Sys2Proof.Machine.execRouteRead kind s
  | .take => Sys2Proof.Machine.execTake s
  | .ack kind position => Sys2Proof.Machine.execAck kind position s
  | .reset => Sys2Proof.Machine.execReset s
  | .frameAccepted payload check => Sys2Proof.Machine.execFrameAccepted payload check s
  | .frameAbandoned => Sys2Proof.Machine.execFrameAbandoned s
  | .frameGapTimeout => Sys2Proof.Machine.execFrameGapTimeout s
  | .answerSent => Sys2Proof.Machine.execAnswerSent s
  | .powerOnReset => Sys2Proof.Machine.execPowerOnReset s
  | .pinReset => Sys2Proof.Machine.execPinReset s
  | .commandReset => Sys2Proof.Machine.execCommandReset s
  | .resetEnd => Sys2Proof.Machine.execResetEnd s
  | .roundStart order => Sys2Proof.Machine.execRoundStart order s
  | .channelCountdownExpiry bay kind => Sys2Proof.Machine.execChannelCountdownExpiry bay kind s
  | .intervalExpiry bay => Sys2Proof.Machine.execIntervalExpiry bay s
  | .expiryInWaiting bay => Sys2Proof.Machine.execExpiryInWaiting bay s
  | .endByMaximum bay => Sys2Proof.Machine.execEndByMaximum bay s
  | .dripEnd bay => Sys2Proof.Machine.execDripEnd bay s
  | .checkPoint fsense => Sys2Proof.Machine.execCheckPoint fsense s
  | .grantPoint => Sys2Proof.Machine.execGrantPoint s
  | .sweepStart => Sys2Proof.Machine.execSweepStart s
  | .selectEnd => Sys2Proof.Machine.execSelectEnd s
  | .referenceEnd rate => Sys2Proof.Machine.execReferenceEnd rate s
  | .sensorEnd input => Sys2Proof.Machine.execSensorEnd input s
  | .wakeEnd => Sys2Proof.Machine.execWakeEnd s
  | .presenceSeen => Sys2Proof.Machine.execPresenceSeen s
  | .presenceWindowClose => Sys2Proof.Machine.execPresenceWindowClose s
  | .attemptJudged => Sys2Proof.Machine.execAttemptJudged s
  | .spacingEnd => Sys2Proof.Machine.execSpacingEnd s
  | .connect bay => Sys2Proof.Machine.execConnect bay s
  | .disconnect bay => Sys2Proof.Machine.execDisconnect bay s
  | .doorAcceptance bay closed => Sys2Proof.Machine.execDoorAcceptance bay closed s
  | .runAcceptance bay active => Sys2Proof.Machine.execRunAcceptance bay active s
  | .overcurrentAcceptance bay closed => Sys2Proof.Machine.execOvercurrentAcceptance bay closed s
  | .powerGoodWaitEnd bay => Sys2Proof.Machine.execPowerGoodWaitEnd bay s
  | .lineSampleTick samples order => Sys2Proof.Machine.execLineSampleTick samples order s
  | .bitSlotSample high => Sys2Proof.Machine.execBitSlotSample high s
  | .byteReceived value => Sys2Proof.Machine.execByteReceived value s

end Sys2Proof.Machine
end

