-- ==== Sys2Proof/Safety.lean ====
section
/-! DEFINITION. What must hold in every state a run reaches: the ranges and exclusions the spec states, as invariants of
the step, and the states in which the host link takes a request at once. -/

namespace Sys2Proof.Machine

/-! ## When a command reaches the part -/

/-- R171: no reset is in progress and the transmitter is IDLE: an accepted frame's command is taken at once. -/
def State.ready (s : State) : Prop := s.resetting = none ∧ s.link.transmitter = .idle

/-- R171, R172: the state `s` with the answer `a` to the request `r` being sent. -/
def State.answering (s : State) (r : Request) (a : Answer) : State :=
  { s with link :=
      { s.link with transmitter := .sending (frameOf (r.code :: a.status.code :: a.results)), resetArmed := r.arms } }

/-- The request of Table 55 that a host command row stands for (log 7); none for an event, and none for more points than
a frame carries (R169). -/
def requestOf : Instr → Option Request
  | .book n a => some (.book n a)
  | .amend n a => some (.amend n a)
  | .retire n => some (.retire n)
  | .lookup sel op => some (.lookup sel op)
  | .list st => some (.list st)
  | .assign b n => some (.assign b n)
  | .rebase n => some (.rebase n)
  | .defrostNow n => some (.defrostNow n)
  | .defrostStop n => some (.defrostStop n)
  | .bayStatus b => some (.bayStatus b)
  | .bayEnable b => some (.bayEnable b)
  | .bayDisable b => some (.bayDisable b)
  | .clearFault b => some (.clearFault b)
  | .spot b k => some (.spot b k)
  | .curveWrite c k n pts => if pts.length ≤ Config.maxFramePoints then some (.curveWrite c k n pts) else none
  | .curveRead c => some (.curveRead c)
  | .curveClear c => some (.curveClear c)
  | .setRoundMs v => some (.set 1 v)
  | .setCheckAt v => some (.set 2 v)
  | .setGrantAt v => some (.set 3 v)
  | .setSweepAt v => some (.set 4 v)
  | .setReserveMs v => some (.set 5 v)
  | .setFuelEvery v => some (.set 6 v)
  | .setProbeEvery v => some (.set 7 v)
  | .setSettleRounds v => some (.set 8 v)
  | .setSmoothShift v => some (.set 9 v)
  | .setFeederUnits v => some (.set 10 v)
  | .setSagLevel v => some (.set 11 v)
  | .setRestoreRounds v => some (.set 12 v)
  | .setPowerGoodMs v => some (.set 13 v)
  | .setGuard v => some (.set 14 v)
  | .setResetCause v => some (.set 15 v)
  | .get x => some (.get x)
  | .routeSet k m c => some (.routeSet k m c)
  | .routeRead k => some (.routeRead k)
  | .take => some .take
  | .ack k p => some (.ack k p)
  | .reset => some .reset
  | .frameAccepted _ _ | .frameAbandoned | .frameGapTimeout | .answerSent | .powerOnReset | .pinReset => none
  | .commandReset | .resetEnd | .roundStart _ | .channelCountdownExpiry _ _ | .intervalExpiry _ => none
  | .expiryInWaiting _ | .endByMaximum _ | .dripEnd _ | .checkPoint _ | .grantPoint | .sweepStart => none
  | .selectEnd | .referenceEnd _ | .sensorEnd _ | .wakeEnd | .presenceSeen | .presenceWindowClose => none
  | .attemptJudged | .spacingEnd | .connect _ | .disconnect _ | .doorAcceptance _ _ | .runAcceptance _ _ => none
  | .overcurrentAcceptance _ _ | .powerGoodWaitEnd _ | .lineSampleTick _ _ | .bitSlotSample _ => none
  | .byteReceived _ => none

/-! ## Round timer (R25, R27 to R30, R35) -/

/-- Table 14: the ranges of the four round settings. -/
def RoundSettings.ok (x : RoundSettings) : Prop :=
  500 ≤ x.roundMs ∧ x.roundMs ≤ 2000 ∧ x.checkAt < x.roundMs ∧ x.grantAt < x.roundMs ∧ x.sweepAt < x.roundMs

/-- R25, R27, R28, R30: stored and in force, every offset lies below its interval; round remaining lies within the round; a
point still to come has not been passed by, and one that came for the next round stands at the end of this one. R35: line
sample ticks come every 10 ms of the time base, and none still to come has been passed by. -/
def TimerInv (s : State) : Prop :=
  s.timer.stored.ok ∧ s.timer.inForce.ok ∧ s.timer.remaining ≤ s.timer.inForce.roundMs
    ∧ s.timer.tickUs % 10000 = 0 ∧ s.timer.timeUs ≤ s.timer.tickUs
    ∧ ∀ p : Point,
        (s.timer.points.get p = .outstanding → s.timer.inForce.roundMs - s.timer.inForce.pointAt p ≤ s.timer.remaining)
          ∧ (s.timer.points.get p = .takenAhead → s.timer.remaining = 0)

/-! ## Settings (R44, R66, R87, R99, R126, R151) -/

/-- The ranges of the other settings. -/
def SettingsInv (s : State) : Prop :=
  (1 ≤ s.converter.fuelEvery ∧ s.converter.fuelEvery ≤ 600)
    ∧ (1 ≤ s.converter.probeEvery ∧ s.converter.probeEvery ≤ 600)
    ∧ (10 ≤ s.converter.reserveMs ∧ s.converter.reserveMs ≤ 200)
    ∧ s.settleRounds ≤ 600 ∧ s.smoothShift ≤ 4 ∧ s.feeder.units ≤ 8 ∧ s.feeder.sagLevel ≤ 15
    ∧ (1 ≤ s.feeder.restoreRounds ∧ s.feeder.restoreRounds ≤ 600)
    ∧ s.powerGoodMs ≤ 700 ∧ s.powerGoodMs % 100 = 0

/-! ## Feeder arbiter (R128, R138) -/

/-- R138: the ranks are the numbers 0 to 15, each held by exactly one bay. -/
def RankInv (s : State) : Prop :=
  (∀ b : Bay, s.feeder.rank[b] < 16) ∧ ∀ b c : Bay, s.feeder.rank[b] = s.feeder.rank[c] → b = c

/-- R126, R128: shed units and granted loads fit FEEDER_UNITS. -/
def BudgetInv (s : State) : Prop := s.feeder.shed + Feeder.loadSum s.feeder.grants ≤ s.feeder.units

/-! ## Bay power (R42, R43) -/

/-- R42, R43, R44: power is on exactly while SERVING, power good only there, and a wait runs only while SERVING and
power good is false. -/
def PowerInv (s : State) : Prop :=
  s.powerGoodMs ≤ 700 ∧ ∀ b : Bay,
    (s.bays[b].powerOn = true ↔ s.bays[b].state = .serving)
      ∧ (s.bays[b].powerGood = true → s.bays[b].state = .serving)
      ∧ (∀ w ∈ s.bays[b].wait, w ≤ 700 ∧ s.bays[b].state = .serving ∧ s.bays[b].powerGood = false)

/-! ## Registry: records, references, bay states and the identify queue (R1, R7, R36, R55, R56) -/

/-- R1: no two records carry one number, and none carries 0. -/
def NumbersUnique (s : State) : Prop :=
  (∀ i : SlotIx, ∀ r ∈ s.table[i], r.number ≠ 0)
    ∧ ∀ i j : SlotIx, ∀ r ∈ s.table[i], ∀ q ∈ s.table[j], r.number = q.number → i = j

/-- R7: a bay refers to a record exactly when that record is PARKED and names that bay. -/
def RefsParked (s : State) : Prop :=
  ∀ (b : Bay) (i : SlotIx), s.bays[b].ref = some i ↔ ∃ r ∈ s.table[i], r.place.bay? = some b

/-- R7, R36, R50: what a bay state implies of the reference and of the connection; a held tag is no 0 (R36). -/
def BayCtl.coherent (x : BayCtl) : Prop :=
  match x.state with
  | .empty => x.ref = none ∧ x.connected = false
  | .identifying => x.ref = none ∧ x.connected = true
  | .held h => x.ref = none ∧ x.connected = true ∧ h.tag ≠ some 0
  | .serving => x.ref.isSome = true ∧ x.connected = true
  | .fault => x.ref.isSome = true ∧ x.connected = true
  | .disabled => x.ref.isSome = true → x.connected = true

/-- R55, R56: the identify queue holds exactly the IDENTIFYING bays, each once, and is empty exactly in IDLE. -/
def QueueIdentifies (s : State) : Prop :=
  s.reader.queue.Nodup ∧ (∀ b : Bay, b ∈ s.reader.queue ↔ s.bays[b].state = .identifying)
    ∧ (s.reader.state = .idle ↔ s.reader.queue = [])

/-- The registry of records and bays is consistent. -/
def RegistryInv (s : State) : Prop :=
  NumbersUnique s ∧ RefsParked s ∧ (∀ b : Bay, s.bays[b].coherent) ∧ QueueIdentifies s

/-! ## Tag reader (R55, R58, R59, R62, R63) -/

/-- Table 21, R63: an attempt is one of three; the third that fails leads to no spacing. Table 22, R58, R59, R63: the read
of the head has come to no instant past an event still to come: the wake pulse lasts 500 us of the attempt, the presence
window closes 900 us into it, slot 0 begins in that window, each slot is sampled 60 us into it, the forty are over 10,000
us after slot 0 began, and the next attempt begins 50 ms after the start of the last. The slot number is that of the slot
this instant lies in, and the bit counter is 0 behind the last of the five bytes (R60). An idle reader stands at the time
base (log 23). -/
def ReaderInv (s : State) : Prop :=
  let at' := s.reader.instant s.timer.timeUs
  match s.reader.state with
  | .idle => s.reader.ahead = 0
  | .attempt n start .wake => 1 ≤ n ∧ n ≤ 3 ∧ start ≤ at' ∧ at' ≤ start + 500
  | .attempt n start .presence => 1 ≤ n ∧ n ≤ 3 ∧ start + 500 ≤ at' ∧ at' ≤ start + 900
  | .attempt n start (.bits began slot count _ bytes) =>
    1 ≤ n ∧ n ≤ 3 ∧ start + 600 ≤ began ∧ began ≤ start + 900
      ∧ began ≤ at' ∧ slot = min 39 ((at' - began) / 250)
      ∧ ((bytes.length < 5 ∧ at' ≤ began + 250 * (8 * bytes.length + count.toNat) + 60)
          ∨ (bytes.length = 5 ∧ count = 0 ∧ at' ≤ began + 10000))
  | .spacing n start => 1 ≤ n ∧ n ≤ 2 ∧ start ≤ at' ∧ at' ≤ start + 50000

/-! ## Heating (R109, R120, R127) -/

/-- R109, R127: the permit of a bay is on exactly while its record is HEATING, and the grant list holds exactly the bays
whose records are HEATING, each once; every such bay is SERVING. A record that is not PARKED is IDLE (R6, R10). -/
def HeatInv (s : State) : Prop :=
  (∀ b : Bay, (s.heat[b] = true ↔ s.heatingAt b = true)
      ∧ (b ∈ s.feeder.grants.map (·.bay) ↔ s.heatingAt b = true)
      ∧ (s.heatingAt b = true → s.bays[b].state = .serving))
    ∧ (s.feeder.grants.map (·.bay)).Nodup
    ∧ ∀ i : SlotIx, ∀ r ∈ s.table[i], r.place.bay? = none → r.defrost.state = .idle

/-! ## Presence (R14, R47, R94, R108, R131, R143) -/

/-- Whether the source of a condition kind holds it present at a bay; event kinds have no presence. -/
def State.holds (s : State) (k : BayKind) (b : Bay) : Bool :=
  match k with
  | .tagFail => s.bays[b].state == .held .tagFail
  | .tagConflict => (match s.bays[b].state with | .held (.conflict _) => true | _ => false)
  | .tableFull => (match s.bays[b].state with | .held (.tableFull _) => true | _ => false)
  | .overcurrent => s.bays[b].state == .fault
  | .probeFault => s.conditions[b].probeFault
  | .fuelLow => s.conditions[b].fuelLow
  | .fuelDrop => s.conditions[b].fuelDrop
  | .senderFault => s.conditions[b].senderFault
  | .doorLong => s.doors[b].doorLong
  | .parked | .left | .defrostEnd | .defrostLate | .defrostLong | .doorGuard => false

/-- R14, R47, R131, R149, R154: every notice slot's present flag agrees with its source, and the conditions of a record
stand only at a bay that refers to one (R94, R112). -/
def PresenceInv (s : State) : Prop :=
  (∀ (k : BayKind) (b : Bay), (s.notices.slot (.bay k b)).present = s.holds k b)
    ∧ ((s.notices.slot .feederSag).present = (s.feeder.verdict == .sag))
    ∧ (∀ b : Bay, s.bays[b].ref = none → s.conditions[b] = .none)
    ∧ ∀ b : Bay, s.bays[b].connected = false → s.doors[b].doorLong = false

/-! ## Notice unit (R155 to R158, R166) -/

/-- R166: ATTN is asserted exactly while the delivery queue holds a key. -/
def AttnInv (s : State) : Prop := s.notices.attn = !s.notices.queue.isEmpty

/-- R155, R158: what a slot may hold. An event slot is IDLE or RAISED with a repeat count and no presence; a condition
slot that is RAISED or ACKED is present; a slot RAISED with queued false waits only while the queue is full. -/
def Notices.slotOk (n : Notices) (k : Key) : Prop :=
  match (n.slot k).delivery with
  | .idle => k.kind.isCondition = true ∨ (n.slot k).present = false
  | .raised _ repeats queued =>
    (queued = true ↔ k ∈ n.queue) ∧ (queued = false → n.queue.length = Config.deliveryCapacity)
      ∧ (if k.kind.isCondition then (n.slot k).present = true ∧ repeats = none
         else (n.slot k).present = false ∧ ∃ c, repeats = some c ∧ 1 ≤ c ∧ c ≤ Config.repeatMax)
  | .taken _ => k.kind.isCondition = true
  | .acked _ => k.kind.isCondition = true ∧ (n.slot k).present = true

/-- R157: at most 24 keys, none twice, each of a RAISED slot, every HIGH key before every LOW key; R155 of each slot. -/
def NoticesInv (s : State) : Prop :=
  s.notices.queue.length ≤ Config.deliveryCapacity ∧ s.notices.queue.Nodup
    ∧ (∀ k ∈ s.notices.queue, (s.notices.raisedInfo k).isSome = true)
    ∧ (∀ k ∈ s.notices.queue.dropWhile s.notices.isHigh, s.notices.isHigh k = false)
    ∧ ∀ k : Key, s.notices.slotOk k

/-! ## Door watch (R143, R152) -/

/-- R143, R152: an unwatched bay holds the unwatched values, and the record parked at a bay holds the bay's door figures. -/
def DoorInv (s : State) : Prop :=
  (∀ b : Bay, s.bays[b].connected = false → s.doors[b] = .unwatched)
    ∧ ∀ (b : Bay), ∀ r ∈ s.recordAt b, r.door = s.doors[b].figures

/-! ## Fuel figures (R100) -/

/-- R100, R107: filtered level and baseline are present together, and the baseline is at least the filtered level. -/
def FuelInv (s : State) : Prop :=
  ∀ i : SlotIx, ∀ r ∈ s.table[i],
    (r.fuel.filtered.isSome = r.fuel.baseline.isSome)
      ∧ ∀ f ∈ r.fuel.filtered, ∀ v ∈ r.fuel.baseline, f ≤ v

/-! ## Curve store (R87) -/

/-- R87, Table 32: the ranges of a point of a curve. -/
def pointOk (k : ChannelKind) (p : Nat × Int) : Prop :=
  match k with
  | .fuel => p.1 ≤ 30000 ∧ 0 ≤ p.2 ∧ p.2 ≤ 20000
  | .probe => p.1 ≤ 1000000 ∧ -400 ≤ p.2 ∧ p.2 ≤ 1500

/-- R87: a curve that is not empty has 2 to 9 points, strictly ascending in resistance, each in its kind's ranges. -/
def Curve.ok (c : Curve) : Prop :=
  2 ≤ c.points.length ∧ c.points.length ≤ 9 ∧ c.points.Pairwise (fun p q => p.1 < q.1)
    ∧ ∀ p ∈ c.points, pointOk c.kind p

/-- R87: every stored curve is such. -/
def CurvesInv (s : State) : Prop := ∀ c : Fin 8, ∀ v ∈ s.curves[c], v.ok

/-! ## Settings and figures of records and bays (R3 to R5, R36, R126, R143) -/

/-- Table 6. -/
def Settings.ok (x : Settings) : Prop :=
  (1 ≤ x.heaterLoad ∧ x.heaterLoad ≤ 3) ∧ (1 ≤ x.interval ∧ x.interval ≤ 1440)
    ∧ (0 ≤ x.termination ∧ x.termination ≤ 250) ∧ (60 ≤ x.maxHeat ∧ x.maxHeat ≤ 3600) ∧ x.drip ≤ 600
    ∧ x.lowFuel ≤ 20000 ∧ (10 ≤ x.dropThreshold ∧ x.dropThreshold ≤ 5000)
    ∧ (10 ≤ x.doorRunning ∧ x.doorRunning ≤ 3600) ∧ (10 ≤ x.doorStopped ∧ x.doorStopped ≤ 65535)

/-- Table 7, the fuel figures. -/
def FuelFigures.ok (f : FuelFigures) : Prop :=
  (∀ r ∈ f.lastResistance, r ≤ 30000) ∧ (∀ l ∈ f.lastLevel, 0 ≤ l ∧ l ≤ 20000) ∧ (∀ l ∈ f.filtered, 0 ≤ l ∧ l ≤ 20000)
    ∧ (∀ l ∈ f.baseline, 0 ≤ l ∧ l ≤ 20000) ∧ f.errorRun ≤ 255

/-- Table 7, the probe figures. -/
def ProbeFigures.ok (p : ProbeFigures) : Prop :=
  (∀ r ∈ p.lastResistance, r ≤ 1280000) ∧ (∀ t ∈ p.coil, -400 ≤ t ∧ t ≤ 1500) ∧ p.errorRun ≤ 255 ∧ p.lastError ≠ .high

/-- Table 8, the defrost figures; a HEATING record has not yet come to its end by maximum (R119). -/
def DefrostFigures.ok (d : DefrostFigures) : Prop :=
  d.intervalCount ≤ 86400 ∧ d.heatRounds ≤ 3600 ∧ d.dripCount ≤ 600 ∧ d.completed ≤ 65535
    ∧ ∀ g, d.state = .heating g → d.heatRounds < 3600

/-- Table 8, the door figures. -/
def DoorFigures.ok (f : DoorFigures) : Prop := f.openings ≤ 65535 ∧ f.openRounds ≤ 65535

/-- R3 to R5: the ranges of a record. -/
def Record.ok (r : Record) : Prop := r.settings.ok ∧ r.fuel.ok ∧ r.probe.ok ∧ r.defrost.ok ∧ r.door.ok

/-- Table 45: at most two samples stand in a run, and none without a candidate. -/
def Line.ok (l : Line) : Prop := l.run ≤ 2 ∧ (l.candidate = Option.none ↔ l.run = 0)

/-- Tables 6 to 8, 18, 41 and 45: records, door watches, differing samples and the restore counter are in their ranges. -/
def FiguresInv (s : State) : Prop :=
  (∀ i : SlotIx, ∀ r ∈ s.table[i], r.ok)
    ∧ (∀ b : Bay, s.doors[b].figures.ok ∧ s.doors[b].settle ≤ 600 ∧ s.doors[b].doorLine.ok ∧ s.doors[b].runLine.ok
        ∧ s.doors[b].ovcLine.ok ∧ s.bays[b].differing ≤ 4)
    ∧ s.feeder.restoreCounter ≤ 600

/-! ## Resistance converter (R66, R73, R76, R78, R80) -/

/-- Table 25: the ranges of the counters and of T in each stage; a REFERENCE with its cycle counter at 0 has wrapped. -/
def Stage.ok : Stage → Prop
  | .idle | .select _ => True
  | .reference _ timebase cycles => timebase ≤ 1048575 ∧ cycles ≤ 1048575 ∧ (cycles = 0 → 1 ≤ timebase)
  | .sensor _ held timebase cycles => 1 ≤ held ∧ held ≤ 1048574 ∧ timebase ≤ held ∧ cycles ≤ 1048575

/-- R69, R70: less than one oscillator cycle has gone since the last one counted (log 17). -/
def Converter.phaseOk (o : Outside) (c : Converter) : Prop :=
  match c.stage with
  | .idle | .select _ => True
  | .reference ch _ _ => c.phase < (o.onReference ch).den
  | .sensor ch _ _ _ => c.phase < (o.onNetwork ch).den

/-- R66, R76: a channel of a bay that is not SERVING carries no due mark, stands in no list and is not in flight. -/
def Converter.clearOf (c : Converter) (ch : Channel) : Prop :=
  (c.channel ch).due = none ∧ ch ∉ c.spot ∧ (∀ l ∈ c.sweep, ch ∉ l) ∧ c.stage.channel ≠ some ch

/-- Table 25, R68, R73, R76, R78, R80: counters and countdowns in their ranges, 4000 ticks of SELECT at most and less than
one oscillator cycle between counts (log 17); the spot list of at most 8 channels, none twice; the sweep list with none
twice, without the channel in flight, and CLOSED in IDLE; marks, lists and conversions only at SERVING bays. -/
def ConverterInv (s : State) : Prop :=
  s.converter.stage.ok ∧ s.converter.settle ≤ Config.selectTicks ∧ s.converter.phaseOk s.outside
    ∧ (∀ ch : Channel, (s.converter.channel ch).countdown ≤ s.converter.period ch.kind)
    ∧ s.converter.spot.length ≤ Config.spotCapacity ∧ s.converter.spot.Nodup
    ∧ (∀ l ∈ s.converter.sweep, l.Nodup ∧ ∀ ch ∈ l, s.converter.stage.channel ≠ some ch)
    ∧ (s.converter.stage = .idle → s.converter.sweep = none)
    ∧ ∀ ch : Channel, s.bays[ch.bay].state ≠ .serving → s.converter.clearOf ch

end Sys2Proof.Machine
end

