-- ==== Sys2Proof/Certificates/Slice0/Obligations.lean ====
section
/-! DEFINITION. The statements for the provers. Each docstring names the rules of spec/ it comes from. A next state
written as a record update says the frame too: every field not named is unchanged. -/

section Statements

open Sys2Proof Sys2Proof.Machine

/-! ## The block, its queue and its time base -/

/-- A step on a queue that is not empty is the front command's effect, with the queue's rest. -/
def Obligations.StepTakesTheFrontCommand : Prop :=
  ∀ (c : Instr) (rest : List Instr) (s : State),
    step { s with pending := c :: rest } = exec c { s with pending := rest }

/-- The model's choice (log 3, log 4): on an empty queue a step does nothing in a reset; else it is the event that the
time base has brought, if one is due, the round timer's first, then the converter's, the reader's, the lowest bay's
wait, and the line sample tick; else it runs a microsecond of the time base (R28, R35, R43, R55, R58, R59, R63, R65, R68
to R70). What makes an event due is said of each; of several points the one with the least offset comes first, of equal
ones in a fixed order (log 26). The reader sees the head's line as it stands: low in the presence window, 600 to 900 us
into the attempt, is presence, high to its close is no tag, and each slot is sampled 60 us into it; its instants are
those of the read, which rows may have brought ahead of the time base (log 23). -/
def Obligations.IdleStepRunsTheTimeBase : Prop :=
  ∀ s : State, s.pending = [] →
    let now := s.timer.timeUs + 1
    let whole : Bool := now % 1000 = 0
    let order (p : Point) : Nat := match p with | .check => 0 | .grant => 1 | .sweep => 2
    let x := s.timer.inForce
    let waits (p : Point) : Prop := s.timer.points.get p = .outstanding
    let come (p : Point) : Prop := waits p ∧ x.pointAt p ≤ x.roundMs - s.timer.remaining
    let roundDue : Prop := (∃ p, come p) ∨ s.timer.remaining = 0
    let stageDue : Bool := match s.converter.stage with
      | .idle => false
      | .select _ => s.converter.settle = 0
      | .reference _ tb cy => cy = 0 ∨ 1048575 ≤ tb
      | .sensor _ _ tb cy => tb = 0 ∨ 1048575 ≤ cy
    let read := s.timer.timeUs + s.reader.ahead
    let high : Bool := match s.reader.queue with | b :: _ => s.outside.tags[b] | [] => true
    let reader : Option Instr := match s.reader.state with
      | .idle => none
      | .attempt _ start .wake => if start + 500 ≤ read then some .wakeEnd else none
      | .attempt _ start .presence =>
        if start + 600 ≤ read ∧ read ≤ start + 900 ∧ high = false then some .presenceSeen
        else if start + 900 ≤ read then some .presenceWindowClose else none
      | .attempt _ _ (.bits began _ count _ bytes) =>
        if bytes.length < 5 then
          if began + 250 * (8 * bytes.length + count.toNat) + 60 ≤ read then some (.bitSlotSample high) else none
        else if began + 10000 ≤ read then some .attemptJudged else none
      | .spacing _ start => if start + 50000 ≤ read then some .spacingEnd else none
    (∀ cause, s.resetting = some cause → dueEvent s = none ∧ step s = .next s)
      ∧ (∀ c, dueEvent s = some c → step s = exec c s)
      ∧ (s.resetting = none → dueEvent s = none → step s = .next { s with
          timer := { s.timer with
            timeUs := now, remaining := if whole then s.timer.remaining - 1 else s.timer.remaining }
          bays := s.bays.map (fun b => { b with wait := if whole then b.wait.map (· - 1) else b.wait })
          converter := s.converter.run s.outside 4
          reader := { s.reader with state := match s.reader.state with
            | .attempt n start (.bits began _ count shift bytes) =>
              .attempt n start (.bits began (min 39 ((read + 1 - began) / 250)) count shift bytes)
            | other => other } })
      ∧ (s.resetting = none → s.converter.stage.ok → s.converter.phaseOk s.outside →
          (dueEvent s = none ↔ ¬ roundDue ∧ stageDue = false ∧ reader = none ∧ (∀ b : Bay, s.bays[b].wait ≠ some 0)
              ∧ s.timer.timeUs < s.timer.tickUs)
            ∧ (∀ p, come p →
                (∀ q, waits q → x.pointAt p < x.pointAt q ∨ (x.pointAt p = x.pointAt q ∧ order p ≤ order q)) →
                dueEvent s = some (match p with
                  | .check => .checkPoint s.outside.fsense | .grant => .grantPoint | .sweep => .sweepStart))
            ∧ ((∀ p, ¬ come p) → s.timer.remaining = 0 → dueEvent s = some (.roundStart []))
            ∧ (¬ roundDue → stageDue = true → dueEvent s = some (match s.converter.stage with
                | .reference ch _ _ => .referenceEnd (s.outside.referenceRate ch)
                | .sensor ch _ _ _ => .sensorEnd (s.outside.input ch)
                | _ => .selectEnd))
            ∧ (¬ roundDue → stageDue = false → reader.isSome → dueEvent s = reader)
            ∧ (¬ roundDue → stageDue = false → reader = none → ∀ b : Bay, s.bays[b].wait = some 0 →
                (∀ c : Bay, c < b → s.bays[c].wait ≠ some 0) → dueEvent s = some (.powerGoodWaitEnd b))
            ∧ (¬ roundDue → stageDue = false → reader = none → (∀ b : Bay, s.bays[b].wait ≠ some 0) →
                s.timer.tickUs ≤ s.timer.timeUs → dueEvent s = some (.lineSampleTick s.outside.lines [])))

/-- No command faults or is refused (the spec describes no fault, and a refused request is answered). The model's choice
(log 1): none touches the queue of the others, a field of the model. -/
def Obligations.EveryCommandIsCarriedOut : Prop :=
  ∀ (c : Instr) (s : State), ∃ t : State, exec c s = .next t ∧ t.pending = s.pending

/-- The model's choice (log 5, log 6): while a reset lasts every command but a power-on reset, a pin reset and the
reset's end changes nothing (R174), and out of one an event that cannot occur in the state changes nothing: a point
already come (log 26; a CHECK_POINT still brings the level at FSENSE, log 4), a stage end without the stage, presence
behind the close of its window, and so on. -/
def Obligations.CommandsOutOfPlaceChangeNothing : Prop :=
  ∀ (s : State) (b : Bay) (n : Nat) (k : ChannelKind) (v : Bool),
    (∀ (c : Instr) (cause : ResetCause), s.resetting = some cause → c ≠ .powerOnReset → c ≠ .pinReset →
        c ≠ .resetEnd → exec c s = .next s)
      ∧ ((∀ i st, s.reader.state ≠ .attempt i st .wake) → exec .wakeEnd s = .next s)
      ∧ ((∀ i st, s.reader.state ≠ .attempt i st .presence) →
          exec .presenceSeen s = .next s ∧ exec .presenceWindowClose s = .next s)
      ∧ (∀ i st, s.reader.state = .attempt i st .presence → st + 900 < s.timer.timeUs + s.reader.ahead →
          exec .presenceSeen s = .next s)
      ∧ ((∀ i st a c d e bytes, s.reader.state = .attempt i st (.bits a c d e bytes) → 5 ≤ bytes.length) →
          exec (.bitSlotSample v) s = .next s)
      ∧ ((∀ i st a c d e bytes, s.reader.state = .attempt i st (.bits a c d e bytes) → bytes.length < 5) →
          exec .attemptJudged s = .next s)
      ∧ ((∀ i st, s.reader.state ≠ .spacing i st) → exec .spacingEnd s = .next s)
      ∧ (∀ p : Point, s.timer.points.get p = .takenAhead
            ∨ (s.timer.points.get p = .taken ∧ s.timer.stored.pointAt p ≠ 0) →
          exec (p.row n) s = .next (if p = .check then { s with outside :=
            { s.outside with fsense := if s.resetting = none then n else s.outside.fsense } } else s))
      ∧ ((∀ ch, s.converter.stage ≠ .select ch) → exec .selectEnd s = .next s)
      ∧ ((∀ ch tb cy, s.converter.stage ≠ .reference ch tb cy) → exec (.referenceEnd n) s = .next s)
      ∧ ((∀ ch h tb cy, s.converter.stage ≠ .sensor ch h tb cy) → ∀ x, exec (.sensorEnd x) s = .next s)
      ∧ (s.bays[b].connected = true → exec (.connect b) s = .next s)
      ∧ (s.bays[b].connected = false → exec (.disconnect b) s = .next s)
      ∧ (s.bays[b].connected = false ∨ s.doors[b].figures.state = (if v then .shut else .opened) →
          exec (.doorAcceptance b v) s = .next s)
      ∧ (s.bays[b].connected = false ∨ s.doors[b].run = (if v then .running else .stopped) →
          exec (.runAcceptance b v) s = .next s)
      ∧ (s.bays[b].connected = false ∨ s.doors[b].ovc = (if v then .clear else .tripped) →
          exec (.overcurrentAcceptance b v) s = .next s)
      ∧ (s.bays[b].wait = none → exec (.powerGoodWaitEnd b) s = .next s)
      ∧ (s.link.transmitter = .idle → exec .answerSent s = .next s)
      ∧ (s.link.transmitter = .idle ∨ s.link.resetArmed = false → exec .commandReset s = .next s)
      ∧ (s.bays[b].state ≠ .serving ∨ (s.converter.channel { bay := b, kind := k }).countdown ≠ 1 →
          exec (.channelCountdownExpiry b k) s = .next s)
      ∧ ((∀ r, s.recordAt b = some r → r.defrost.state ≠ .idle) → exec (.intervalExpiry b) s = .next s)
      ∧ ((∀ r c, s.recordAt b = some r → r.defrost.state ≠ .waiting c) → exec (.expiryInWaiting b) s = .next s)
      ∧ ((∀ r g, s.recordAt b = some r → r.defrost.state ≠ .heating g) → exec (.endByMaximum b) s = .next s)
      ∧ ((∀ r, s.recordAt b = some r → r.defrost.state ≠ .dripping) → exec (.dripEnd b) s = .next s)

/-! ## Host link (R168 to R172, R175) -/

/-- R171, R172 (log 7): a host command row meets the link as its accepted frame: taken at once with the transmitter
IDLE, and answered; held with the transmitter SENDING and the buffer empty; discarded with the buffer full. -/
def Obligations.HostCommandsMeetTheLink : Prop :=
  ∀ (c : Instr) (r : Request) (s : State), requestOf c = some r → s.resetting = none →
    (s.link.transmitter = .idle → exec c s = .next ((runRequest r s).1.answering r (runRequest r s).2))
      ∧ (∀ f, s.link.transmitter = .sending f → s.link.buffer = none →
          exec c s = .next { s with link := { s.link with buffer := some r.payload } })
      ∧ (∀ f p, s.link.transmitter = .sending f → s.link.buffer = some p → exec c s = .next s)

/-- R172, R175, Table 55: the payload written for a request is read back as that request, with every operand at every
value its bytes carry; and a payload read as a request is that request's payload, byte for byte. UNKNOWN_COMMAND is
given exactly for a first byte outside 0x01 to 0x18, and BAD_LENGTH exactly for a known code whose operands are those of
no request, each with that byte. -/
def Obligations.PayloadsAndRequestsCorrespond : Prop :=
  (∀ r : Request, r.canonical = true → parse r.payload = .request r)
    ∧ (∀ (p : List Byte) (r : Request), parse p = .request r → r.payload = p ∧ r.canonical = true)
    ∧ (∀ (code c : Byte) (operands : List Byte),
        (parse (code :: operands) = .unknownCommand c ↔ c = code ∧ (code = 0 ∨ 0x18 < code.toNat))
          ∧ (parse (code :: operands) = .badLength c ↔ c = code ∧ 1 ≤ code.toNat ∧ code.toNat ≤ 0x18
              ∧ ∀ r : Request, r.canonical = true → r.payload ≠ code :: operands))

/-- R168, R169, R170: the bytes of a frame, received one after another in HUNT, are one accepted frame. Its CHECK runs
over LENGTH and payload from 0xFFFF, each byte most significant bit first, with the feedback of the bit and the
register's top bit, and is sent low byte first. -/
def Obligations.FrameBytesAreOneAcceptedFrame : Prop :=
  (∀ (p : List Byte) (s : State), 1 ≤ p.length → p.length ≤ 250 → s.link.receiver = .hunt →
      (frameOf p).foldl (fun t v => receiveByte v t) s = acceptFrame p s)
    ∧ (∀ (reg : Half) (bit : Bool),
        let feedback : Bool := xor bit reg.msb
        crcBit reg bit = if feedback then (reg <<< 1) ^^^ 0x1021 else reg <<< 1)
    ∧ (∀ p : List Byte, checkOf p = (BitVec.ofNat 8 p.length :: p).foldl
        (fun reg v => [7, 6, 5, 4, 3, 2, 1, 0].foldl (fun r i => crcBit r (v.getLsbD i)) reg) 0xFFFF)
    ∧ (∀ p : List Byte, frameOf p = [0x5A, BitVec.ofNat 8 p.length] ++ p
        ++ [BitVec.ofNat 8 (checkOf p).toNat, BitVec.ofNat 8 ((checkOf p).toNat / 256)])

/-- R169 to R172: what one byte does to the receiver in each of its states, up to a complete frame; a bad stop bit and a
gap of more than 10 ms return it to HUNT (a bad stop bit in HUNT itself leaves it there, the model's choice: log 28; the
row of a whole frame leaves it there: log 21). A complete frame is discarded when its CHECK differs; else it is taken,
held or discarded as the transmitter and the buffer stand, and when taken answered after the checks of R172. -/
def Obligations.ReceiverTakesBytesAndFrames : Prop :=
  (∀ (v : Byte) (s : State), s.resetting = none →
      (s.link.receiver = .hunt → v ≠ 0x5A → exec (.byteReceived v) s = .next s)
        ∧ (s.link.receiver = .hunt → v = 0x5A →
            exec (.byteReceived v) s = .next { s with link := { s.link with receiver := .length } })
        ∧ (s.link.receiver = .length → 1 ≤ v.toNat → v.toNat ≤ 250 →
            exec (.byteReceived v) s = .next { s with link := { s.link with receiver := .body v.toNat [] } })
        ∧ (s.link.receiver = .length → (v.toNat = 0 ∨ 250 < v.toNat) →
            exec (.byteReceived v) s = .next { s with link := { s.link with receiver := .hunt } })
        ∧ (∀ n l, s.link.receiver = .body n l → l.length + 1 < n + 2 →
            exec (.byteReceived v) s = .next { s with link := { s.link with receiver := .body n (l ++ [v]) } })
        ∧ (∀ n p lo, s.link.receiver = .body n (p ++ [lo]) → p.length = n → checkOf p ≠ v ++ lo →
            exec (.byteReceived v) s = .next { s with link := { s.link with receiver := .hunt } })
        ∧ (∀ n p lo, s.link.receiver = .body n (p ++ [lo]) → p.length = n → checkOf p = v ++ lo →
            exec (.byteReceived v) s = .next (acceptFrame p { s with link := { s.link with receiver := .hunt } }))
        ∧ exec .frameAbandoned s = .next { s with link := { s.link with receiver := .hunt } }
        ∧ exec .frameGapTimeout s = .next { s with link := { s.link with receiver := .hunt } })
    ∧ (∀ (p : List Byte) (check : Half) (s : State), s.resetting = none → 1 ≤ p.length → p.length ≤ 250 →
        let hunted : State := { s with link := { s.link with receiver := .hunt } }
        (check ≠ checkOf p → exec (.frameAccepted p check) s = .next hunted)
          ∧ (check = checkOf p →
              (∀ f, s.link.transmitter = .sending f → s.link.buffer = none →
                exec (.frameAccepted p check) s = .next { hunted with link := { hunted.link with buffer := some p } })
              ∧ (∀ f q, s.link.transmitter = .sending f → s.link.buffer = some q →
                  exec (.frameAccepted p check) s = .next hunted)
              ∧ (s.link.transmitter = .idle →
                  (∀ r, parse p = .request r →
                    exec (.frameAccepted p check) s
                      = .next ((runRequest r hunted).1.answering r (runRequest r hunted).2))
                  ∧ (∀ code, parse p = .unknownCommand code →
                      exec (.frameAccepted p check) s = .next { hunted with link :=
                        { hunted.link with transmitter := .sending (frameOf [code, 2]), resetArmed := false } })
                  ∧ (∀ code, parse p = .badLength code →
                      exec (.frameAccepted p check) s = .next { hunted with link :=
                        { hunted.link with transmitter := .sending (frameOf [code, 3]), resetArmed := false } }))))

/-- R171, R174: the end of an answer leaves the transmitter IDLE and takes the frame held; the end of RESET's answer
begins the command reset (COMMAND_RESET does the same: log 22), and RESET is answered OK. That RESET_CAUSE keeps its
former value while the reset lasts is the model's choice (log 2), that the queue is kept (log 1), and what stands
outside (log 29). -/
def Obligations.AnswerEndTakesTheHeldFrame : Prop :=
  ∀ s : State, s.resetting = none →
    (∀ f, s.link.transmitter = .sending f → s.link.resetArmed = false → s.link.buffer = none →
        exec .answerSent s = .next { s with link := { s.link with transmitter := .idle } })
      ∧ (∀ f p, s.link.transmitter = .sending f → s.link.resetArmed = false → s.link.buffer = some p →
          exec .answerSent s
            = .next (takePayload p { s with link := { s.link with transmitter := .idle, buffer := none } }))
      ∧ (∀ f, s.link.transmitter = .sending f → s.link.resetArmed = true →
          exec .answerSent s = .next { State.reset with
            outside := s.outside, resetting := some .command, resetCause := s.resetCause, pending := s.pending }
          ∧ exec .commandReset s = .next { State.reset with
              outside := s.outside, resetting := some .command, resetCause := s.resetCause, pending := s.pending })
      ∧ (s.link.transmitter = .idle →
          exec .reset s = .next { s with link :=
            { s.link with transmitter := .sending (frameOf [0x18, 0]), resetArmed := true } })

/-! ## Resets (R32, R174) -/

/-- R174, R32: a power-on and a pin reset set every block to its reset values and differ in the cause; the end of a
reset writes RESET_CAUSE and makes round start 0, whose three points have still to come. The model's choices:
RESET_CAUSE keeps its former value till then (log 2), RESET_END out of a reset does nothing (log 5), a pin reset during
a power-on reset does nothing (log 6, deduced), the comparator, off till then, is on from round start 0 (log 24), the
queue is kept (log 1), and so is what stands outside (log 29). -/
def Obligations.ResetsBeginAndEnd : Prop :=
  ∀ s : State,
    exec .powerOnReset s = .next { State.reset with
        outside := s.outside, resetting := some .power, resetCause := s.resetCause, pending := s.pending }
      ∧ (s.resetting ≠ some .power → exec .pinReset s = .next { State.reset with
          outside := s.outside, resetting := some .pin, resetCause := s.resetCause, pending := s.pending })
      ∧ (s.resetting = some .power → exec .pinReset s = .next s)
      ∧ (s.resetting = none → exec .resetEnd s = .next s)
      ∧ ∀ cause, s = { State.reset with
          outside := s.outside, resetting := some cause, resetCause := s.resetCause, pending := s.pending } →
          exec .resetEnd s = .next { State.reset with
            outside := s.outside, resetting := none, resetCause := cause, pending := s.pending,
            timer := { State.reset.timer with
              number := 0, remaining := 1000,
              points := { check := .outstanding, grant := .outstanding, sweep := .outstanding } },
            feeder := { State.reset.feeder with comparatorOn := true } }

/-- What a reset leaves, by the reset columns of Tables 14, 18, 21, 25, 41, 45, 49 and 50 and by R1, R87, R99, R150,
R151, R169 and R171; and every invariant stated below holds there. What the spec gives no value for stands at the
model's (logs 2, 4, 17, 24). -/
def Obligations.ResetLeavesTheStatedValues : Prop :=
  let s := State.reset
  (s.timer.stored = { roundMs := 1000, checkAt := 20, grantAt := 40, sweepAt := 60 } ∧ s.timer.number = 65535)
    ∧ (∀ b : Bay, s.bays[b] =
        { state := .empty, connected := false, differing := 0, powerOn := false, powerGood := false, wait := none,
          ref := none })
    ∧ (s.reader.state = .idle ∧ s.reader.queue = [])
    ∧ (s.converter.stage = .idle ∧ s.converter.sweep = none ∧ s.converter.spot = []
        ∧ s.converter.fuelEvery = 60 ∧ s.converter.probeEvery = 30 ∧ s.converter.reserveMs = 30
        ∧ ∀ ch : Channel, s.converter.channel ch = { countdown := 0, due := none })
    ∧ ((∀ i : SlotIx, s.table[i] = none) ∧ ∀ c : Fin 8, s.curves[c] = none)
    ∧ (∀ b : Bay, s.doors[b] = .unwatched ∧ s.heat[b] = false ∧ s.conditions[b] = .none ∧ s.feeder.rank[b] = b.val)
    ∧ (s.feeder.units = 0 ∧ s.feeder.sagLevel = 0 ∧ s.feeder.restoreRounds = 10 ∧ s.feeder.shed = 0
        ∧ s.feeder.restoreCounter = 0 ∧ s.feeder.verdict = .clear ∧ s.feeder.grants = [])
    ∧ ((∀ k : Key, s.notices.slot k = { delivery := .idle, present := false, trailer := none, value := none })
        ∧ (∀ k : BayKind, s.notices.route (.bay k) = { masked := false, cls := k.defaultClass })
        ∧ s.notices.route .feederSag = { masked := false, cls := .high }
        ∧ s.notices.queue = [] ∧ s.notices.attn = false)
    ∧ (s.link.receiver = .hunt ∧ s.link.buffer = none ∧ s.link.transmitter = .idle)
    ∧ (s.powerGoodMs = 200 ∧ s.guard = .off ∧ s.settleRounds = 30 ∧ s.smoothShift = 2)
    ∧ TimerInv s ∧ SettingsInv s ∧ RankInv s ∧ BudgetInv s ∧ PowerInv s ∧ AttnInv s ∧ NoticesInv s ∧ FuelInv s
    ∧ RegistryInv s ∧ ReaderInv s ∧ HeatInv s ∧ PresenceInv s ∧ DoorInv s ∧ CurvesInv s ∧ FiguresInv s
    ∧ ConverterInv s

/-! ## Trailer records (R1, R3, R11, R16 to R24) -/

/-- R3, Table 6: each setting given is stored at the nearer end of its range, and each omitted keeps its value; the
defaults. -/
def Obligations.GivenSettingsAreStoredClamped : Prop :=
  ∀ (a : SettingsArg) (x : Settings),
    let y := applySettings a x
    (∀ n : Nat, a.gives n = a.mask.getLsbD n)
      ∧ y.fuelCurve = (if a.mask.getLsbD 0 then
          if a.fuelCurve = 0xFF then none else some (Fin.ofNat 8 (min 7 a.fuelCurve.toNat)) else x.fuelCurve)
      ∧ y.probeCurve = (if a.mask.getLsbD 1 then
          if a.probeCurve = 0xFF then none else some (Fin.ofNat 8 (min 7 a.probeCurve.toNat)) else x.probeCurve)
      ∧ y.heaterLoad = (if a.mask.getLsbD 2 then min 3 (max 1 a.heaterLoad.toNat) else x.heaterLoad)
      ∧ y.interval = (if a.mask.getLsbD 3 then min 1440 (max 1 a.interval.toNat) else x.interval)
      ∧ (a.mask.getLsbD 4 = false → y.clockMode = x.clockMode)
      ∧ (a.mask.getLsbD 4 = true → (a.clockMode = 0 → y.clockMode = .wall) ∧ (a.clockMode = 1 → y.clockMode = .run))
      ∧ y.termination = (if a.mask.getLsbD 5 then min 250 (max 0 a.termination.toInt) else x.termination)
      ∧ y.maxHeat = (if a.mask.getLsbD 6 then min 3600 (max 60 a.maxHeat.toNat) else x.maxHeat)
      ∧ y.drip = (if a.mask.getLsbD 7 then min 600 a.drip.toNat else x.drip)
      ∧ y.lowFuel = (if a.mask.getLsbD 8 then min 20000 a.lowFuel.toNat else x.lowFuel)
      ∧ y.dropThreshold = (if a.mask.getLsbD 9 then min 5000 (max 10 a.dropThreshold.toNat) else x.dropThreshold)
      ∧ y.doorRunning = (if a.mask.getLsbD 10 then min 3600 (max 10 a.doorRunning.toNat) else x.doorRunning)
      ∧ y.doorStopped = (if a.mask.getLsbD 11 then min 65535 (max 10 a.doorStopped.toNat) else x.doorStopped)
      ∧ settingsMalformed a
          = (decide (4096 ≤ a.mask.toNat) || (a.mask.getLsbD 4 && decide (a.clockMode ≠ 0 ∧ a.clockMode ≠ 1)))
      ∧ Settings.default =
          { fuelCurve := some 0, probeCurve := some 4, heaterLoad := 2, interval := 6, clockMode := .wall,
            termination := 120, maxHeat := 2700, drip := 120, lowFuel := 400, dropThreshold := 100, doorRunning := 300,
            doorStopped := 1800 }

/-- R1, R6, R17: the index reaches the record of a number; BOOK creates a BOOKED record in a FREE slot (the lowest:
log 15), or is refused BAD_VALUE, DUPLICATE or FULL, in that order. -/
def Obligations.BookCreatesABookedRecord : Prop :=
  (∀ (s : State) (n : TrailerNo),
      (s.slotOf n = none ↔ ∀ i : SlotIx, ∀ r, s.table[i] = some r → r.number ≠ n)
        ∧ (∀ i, s.slotOf n = some i → ∃ r, s.table[i] = some r ∧ r.number = n)
        ∧ (s.freeSlot = none ↔ ∀ i : SlotIx, s.table[i] ≠ none)
        ∧ ∀ i, s.freeSlot = some i → s.table[i] = none)
    ∧ (∀ (s : State) (n : TrailerNo) (a : SettingsArg), s.ready →
        (n = 0 ∨ settingsMalformed a = true →
            exec (.book n a) s = .next (s.answering (.book n a) (refusal .badValue)))
          ∧ (n ≠ 0 → settingsMalformed a = false →
              (∀ i r, s.slotOf n = some i → s.table[i] = some r →
                exec (.book n a) s = .next (s.answering (.book n a) (refusal .duplicate)))
              ∧ (s.slotOf n = none → s.freeSlot = none →
                  exec (.book n a) s = .next (s.answering (.book n a) (refusal .full)))
              ∧ (∀ i, s.slotOf n = none → s.freeSlot = some i →
                  let x := applySettings a Settings.default
                  exec (.book n a) s = .next ((s.putSlot i (some
                    { number := n, origin := .booked, place := .booked, settings := x,
                      fuel := { lastResistance := none, lastLevel := none, filtered := none, baseline := none,
                                lastRound := none, errorRun := 0, lastError := .none },
                      probe := { lastResistance := none, coil := none, errorRun := 0, lastError := .none },
                      defrost := { state := .idle, intervalCount := x.interval * 60, heatRounds := 0, dripCount := 0,
                                   completed := 0 },
                      door := { state := .unknown, openings := 0, openRounds := 0, lastChange := none } })).answering
                    (.book n a) (okay (wordBytes n ++ x.block))))))

/-- R18, R19, Table 11: AMEND stores the settings given and acts on the running figures of that record alone: a changed
fuel curve restarts the filter and ends FUEL_LOW and FUEL_DROP at the bay of a PARKED record, a changed probe curve makes
the coil temperature absent, and a changed interval lowers the count of a PARKED record (PARKED alone: log 16). -/
def Obligations.AmendStoresAndRestarts : Prop :=
  ∀ (s : State) (n : TrailerNo) (a : SettingsArg), s.ready →
    (n = 0 ∨ settingsMalformed a = true →
        exec (.amend n a) s = .next (s.answering (.amend n a) (refusal .badValue)))
      ∧ (n ≠ 0 → settingsMalformed a = false → s.slotOf n = none →
          exec (.amend n a) s = .next (s.answering (.amend n a) (refusal .notFound)))
      ∧ (∀ i r, n ≠ 0 → settingsMalformed a = false → s.slotOf n = some i → s.table[i] = some r →
          let x := applySettings a r.settings
          let amended : Record := { r with
            settings := x
            fuel := if x.fuelCurve = r.settings.fuelCurve then r.fuel
              else { r.fuel with filtered := none, baseline := none }
            probe := if x.probeCurve = r.settings.probeCurve then r.probe else { r.probe with coil := none }
            defrost := if r.place.bay?.isSome ∧ x.interval ≠ r.settings.interval then
                { r.defrost with intervalCount := min r.defrost.intervalCount (x.interval * 60) }
              else r.defrost }
          let stored : State := s.putSlot i (some amended)
          let answer := okay (wordBytes n ++ x.block)
          (r.place.bay? = none ∨ x.fuelCurve = r.settings.fuelCurve →
              exec (.amend n a) s = .next (stored.answering (.amend n a) answer))
            ∧ ∀ b : Bay, r.place.bay? = some b → x.fuelCurve ≠ r.settings.fuelCurve →
                let low := ceaseIf s.conditions[b].fuelLow .fuelLow b stored
                let both := ceaseIf s.conditions[b].fuelDrop .fuelDrop b low
                exec (.amend n a) s = .next ((both.modCond b
                  (fun c => { c with fuelLow := false, fuelDrop := false })).answering (.amend n a) answer))

/-- R11: RETIRE frees the slot of a BOOKED or DEPARTED record, is refused IN_USE for a PARKED one, NOT_FOUND for an
unknown number and BAD_VALUE for 0, and touches nothing else: no notice, no held bay, no other record. -/
def Obligations.RetireFreesTheSlot : Prop :=
  ∀ (s : State) (n : TrailerNo), s.ready →
    (n = 0 → exec (.retire n) s = .next (s.answering (.retire n) (refusal .badValue)))
      ∧ (n ≠ 0 → s.slotOf n = none → exec (.retire n) s = .next (s.answering (.retire n) (refusal .notFound)))
      ∧ ∀ i r, n ≠ 0 → s.slotOf n = some i → s.table[i] = some r →
          (r.place.bay?.isSome = true → exec (.retire n) s = .next (s.answering (.retire n) (refusal .inUse)))
            ∧ (r.place.bay? = none → exec (.retire n) s
                = .next (({ s with table := s.table.set i.val none }).answering (.retire n) (okay [])))

/-- R20, R54, R91, R156, R173: the reads answer with the state as it stands and change nothing but the link: LOOKUP the
record named by number or by bay, BAY_STATUS the bay, CURVE_READ the curve, ROUTE_READ the route, GET each of the
fifteen settings by its code of Table 56, with the values of R173. R175: the layouts byte by byte, of the settings
block, of Tables 58 and 60 behind code and status, and of a curve. -/
def Obligations.ReadsAnswerAndChangeNothing : Prop :=
  (∀ s : State, s.ready →
    (∀ (n : TrailerNo) (i : SlotIx) (r : Record), n ≠ 0 → s.slotOf n = some i → s.table[i] = some r →
        exec (.lookup 0 n) s = .next (s.answering (.lookup 0 n) (okay (r.bytes (s.grantOf r)))))
      ∧ (∀ n : TrailerNo, n ≠ 0 → s.slotOf n = none →
          exec (.lookup 0 n) s = .next (s.answering (.lookup 0 n) (refusal .notFound)))
      ∧ (∀ (b : Bay) (r : Record), s.recordAt b = some r →
          let op : Word := BitVec.ofNat 32 b.val
          exec (.lookup 1 op) s = .next (s.answering (.lookup 1 op) (okay (r.bytes (s.grantOf r)))))
      ∧ (∀ b : Bay, s.recordAt b = none →
          let op : Word := BitVec.ofNat 32 b.val
          exec (.lookup 1 op) s = .next (s.answering (.lookup 1 op) (refusal .notFound)))
      ∧ (∀ (sel : Byte) (op : Word), (sel = 0 ∧ op = 0) ∨ (sel = 1 ∧ 16 ≤ op.toNat) ∨ 2 ≤ sel.toNat →
          exec (.lookup sel op) s = .next (s.answering (.lookup sel op) (refusal .badValue)))
      ∧ (∀ b : Bay, let c : Byte := BitVec.ofNat 8 b.val
          exec (.bayStatus c) s = .next (s.answering (.bayStatus c)
            (okay (bayBytes s.bays[b] s.doors[b] s.feeder.rank[b] (s.trailerAt b)))))
      ∧ (∀ c : Byte, 16 ≤ c.toNat →
          exec (.bayStatus c) s = .next (s.answering (.bayStatus c) (refusal .badValue)))
      ∧ (∀ c : Fin 8, let v : Byte := BitVec.ofNat 8 c.val
          exec (.curveRead v) s = .next (s.answering (.curveRead v) (okay (curveBytes c s.curves[c]))))
      ∧ (∀ c : Byte, 8 ≤ c.toNat →
          exec (.curveRead c) s = .next (s.answering (.curveRead c) (refusal .badValue)))
      ∧ (∀ (v : Byte) (k : Kind), kindOf v = some k →
          exec (.routeRead v) s = .next (s.answering (.routeRead v) (okay
            [BitVec.ofNat 8 (k.index.val + 1), if (s.notices.route k).masked then 1 else 0,
              if (s.notices.route k).cls = .high then 1 else 0])))
      ∧ (∀ v : Byte, v = 0 ∨ 16 < v.toNat →
          exec (.routeRead v) s = .next (s.answering (.routeRead v) (refusal .badValue)))
      ∧ (let u4 (n : Nat) : List Byte :=
           [BitVec.ofNat 8 n, BitVec.ofNat 8 (n / 256), BitVec.ofNat 8 (n / 65536), BitVec.ofNat 8 (n / 16777216)]
         let gives (v : Byte) (values : List Nat) : Prop := exec (.get v) s = .next (s.answering (.get v) (okay
           ([v, BitVec.ofNat 8 values.length] ++ values.flatMap u4)))
         gives 1 [s.timer.stored.roundMs] ∧ gives 2 [s.timer.stored.checkAt] ∧ gives 3 [s.timer.stored.grantAt]
           ∧ gives 4 [s.timer.stored.sweepAt] ∧ gives 5 [s.converter.reserveMs] ∧ gives 6 [s.converter.fuelEvery]
           ∧ gives 7 [s.converter.probeEvery] ∧ gives 8 [s.settleRounds] ∧ gives 9 [s.smoothShift]
           ∧ gives 10 [s.feeder.units, s.feeder.shed, (s.feeder.grants.map (·.load)).sum]
           ∧ gives 11 [s.feeder.sagLevel] ∧ gives 12 [s.feeder.restoreRounds] ∧ gives 13 [s.powerGoodMs]
           ∧ gives 14 [match s.guard with | .off => 0 | .opening => 1 | .any => 2]
           ∧ gives 15 [match s.resetCause with | .power => 0 | .pin => 1 | .command => 2])
      ∧ (∀ v : Byte, v = 0 ∨ 15 < v.toNat →
          exec (.get v) s = .next (s.answering (.get v) (refusal .badValue))))
    ∧ (let u1 (n : Nat) : List Byte := [BitVec.ofNat 8 n]
       let u2 (n : Nat) : List Byte := [BitVec.ofNat 8 n, BitVec.ofNat 8 (n / 256)]
       let u4 (n : Nat) : List Byte :=
         [BitVec.ofNat 8 n, BitVec.ofNat 8 (n / 256), BitVec.ofNat 8 (n / 65536), BitVec.ofNat 8 (n / 16777216)]
       let i2 (v : Int) : List Byte := u2 (v % 65536).toNat
       let bits (a b c d e : Bool) : List Byte :=
         u1 (a.toNat + 2 * b.toNat + 4 * c.toNat + 8 * d.toNat + 16 * e.toNat)
       let error (e : ErrorKind) : Nat := match e with
         | .none => 0 | .opened => 1 | .short => 2 | .reference => 3 | .high => 4
       let cls (c : DefrostClass) : Nat := match c with | .normal => 0 | .urgent => 1
       let door (d : DoorState) : Nat := match d with | .unknown => 0 | .shut => 1 | .opened => 2
       (∀ x : Settings, x.block =
           u1 ((x.fuelCurve.map (·.val)).getD 255) ++ u1 ((x.probeCurve.map (·.val)).getD 255) ++ u1 x.heaterLoad
             ++ u2 x.interval ++ u1 (match x.clockMode with | .wall => 0 | .run => 1) ++ i2 x.termination ++ u2 x.maxHeat
             ++ u2 x.drip ++ u2 x.lowFuel ++ u2 x.dropThreshold ++ u2 x.doorRunning ++ u2 x.doorStopped)
         ∧ (∀ (r : Record) (g : Option Grant),
             let bay : Option Bay := match r.place with | .parked b _ => some b | _ => none
             let last : Option Bay := match r.place with | .departed b _ _ => some b | _ => none
             let since : Option Round := match r.place with | .parked _ n => some n | .departed _ n _ => some n | .booked => none
             let left : Option Round := match r.place with | .departed _ _ n => some n | _ => none
             let waiting : Option DefrostClass := match r.defrost.state with | .waiting c => some c | _ => none
             let granted : Option DefrostClass := match r.defrost.state with | .heating c => some c | _ => none
             r.bytes g =
               u1 (match r.place with | .booked => 1 | .parked _ _ => 2 | .departed _ _ _ => 3) ++ u4 r.number.toNat
                 ++ u1 (match r.origin with | .booked => 0 | .unbooked => 1)
                 ++ bits bay.isSome last.isSome since.isSome left.isSome false
                 ++ u1 ((bay.map (·.val)).getD 0) ++ u1 ((last.map (·.val)).getD 0)
                 ++ u2 ((since.map (·.toNat)).getD 0) ++ u2 ((left.map (·.toNat)).getD 0) ++ r.settings.block
                 ++ bits r.fuel.lastResistance.isSome r.fuel.lastLevel.isSome r.fuel.filtered.isSome
                      r.fuel.baseline.isSome r.fuel.lastRound.isSome
                 ++ u2 (r.fuel.lastResistance.getD 0) ++ i2 (r.fuel.lastLevel.getD 0) ++ i2 (r.fuel.filtered.getD 0)
                 ++ i2 (r.fuel.baseline.getD 0) ++ u2 ((r.fuel.lastRound.map (·.toNat)).getD 0)
                 ++ u1 r.fuel.errorRun ++ u1 (error r.fuel.lastError)
                 ++ bits r.probe.lastResistance.isSome r.probe.coil.isSome false false false
                 ++ u4 (r.probe.lastResistance.getD 0) ++ i2 (r.probe.coil.getD 0) ++ u1 r.probe.errorRun
                 ++ u1 (error r.probe.lastError)
                 ++ bits waiting.isSome granted.isSome g.isSome g.isSome false
                 ++ u1 (match r.defrost.state with | .idle => 0 | .waiting _ => 1 | .heating _ => 2 | .dripping => 3)
                 ++ u1 ((waiting.map cls).getD 0) ++ u1 ((granted.map cls).getD 0)
                 ++ u1 ((g.map (·.load)).getD 0) ++ u2 ((g.map (·.round.toNat)).getD 0)
                 ++ u4 r.defrost.intervalCount ++ u2 r.defrost.heatRounds ++ u2 r.defrost.dripCount
                 ++ u2 r.defrost.completed
                 ++ bits r.door.lastChange.isSome false false false false ++ u1 (door r.door.state) ++ u2 r.door.openings
                 ++ u2 r.door.openRounds ++ u2 ((r.door.lastChange.map (·.toNat)).getD 0))
         ∧ (∀ (x : BayCtl) (d : DoorWatch) (rank : Nat) (trailer : Option TrailerNo),
             let held : Option Held := match x.state with | .held h => some h | _ => none
             let tag : Option TrailerNo := match x.state with
               | .held (.conflict n) => some n | .held (.tableFull n) => some n | _ => none
             bayBytes x d rank trailer =
               u1 (match x.state with
                   | .empty => 0 | .identifying => 1 | .held _ => 2 | .serving => 3 | .fault => 4 | .disabled => 5)
                 ++ bits held.isSome tag.isSome trailer.isSome false false
                 ++ u1 (match held with | some .tagFail => 0 | some (.conflict _) => 1 | some (.tableFull _) => 2 | none => 0)
                 ++ u4 ((tag.map (·.toNat)).getD 0) ++ bits x.connected x.powerOn x.powerGood false false
                 ++ u1 (match d.ovc with | .clear => 0 | .tripped => 1) ++ u1 (door d.figures.state)
                 ++ u1 (match d.run with | .unknown => 0 | .running => 1 | .stopped => 2) ++ u1 rank
                 ++ u4 ((trailer.map (·.toNat)).getD 0))
         ∧ ∀ c : Fin 8, curveBytes c none = u1 c.val ++ [0xFF, 0]
             ∧ ∀ v : Curve, curveBytes c (some v) =
                 u1 c.val ++ u1 (match v.kind with | .fuel => 0 | .probe => 1) ++ u1 v.points.length
                   ++ v.points.flatMap (fun p => u4 p.1 ++ i2 p.2))

/-- R21: LIST answers the numbers of every record in the named state, ascending, with their count, and changes nothing
but the link; FREE and a code that names no state are refused BAD_VALUE. -/
def Obligations.ListAnswersAscendingNumbers : Prop :=
  ∀ (s : State) (v : Byte), s.ready →
    (1 ≤ v.toNat → v.toNat ≤ 3 → ∃ l : List TrailerNo,
        exec (.list v) s
            = .next (s.answering (.list v) (okay (BitVec.ofNat 8 l.length :: l.flatMap wordBytes)))
          ∧ l.Pairwise (fun x y => x.toNat ≤ y.toNat)
          ∧ (∀ n, n ∈ l ↔ ∃ i : SlotIx, ∃ r, s.table[i] = some r ∧ r.place.code = v.toNat ∧ r.number = n)
          ∧ l.length = allSlots.countP (fun i => s.table[i].any (fun r => r.place.code == v.toNat)))
      ∧ (v.toNat = 0 ∨ 3 < v.toNat → exec (.list v) s = .next (s.answering (.list v) (refusal .badValue)))

/-- R6, R16: ASSIGN's checks in their order, and the record it parks: that of the number, or one created UNBOOKED with
the defaults of Table 6 (in the lowest FREE slot: log 15). -/
def Obligations.AssignParksTheNamedTrailer : Prop :=
  ∀ (s : State) (c : Byte) (n : TrailerNo), s.ready →
    let created : Record :=
      { number := n, origin := .unbooked, place := .booked,
        settings := { fuelCurve := some 0, probeCurve := some 4, heaterLoad := 2, interval := 6, clockMode := .wall,
                      termination := 120, maxHeat := 2700, drip := 120, lowFuel := 400, dropThreshold := 100,
                      doorRunning := 300, doorStopped := 1800 },
        fuel := { lastResistance := none, lastLevel := none, filtered := none, baseline := none, lastRound := none,
                  errorRun := 0, lastError := .none },
        probe := { lastResistance := none, coil := none, errorRun := 0, lastError := .none },
        defrost := { state := .idle, intervalCount := 360, heatRounds := 0, dripCount := 0, completed := 0 },
        door := { state := .unknown, openings := 0, openRounds := 0, lastChange := none } }
    Record.create n .unbooked .default = created
      ∧ (16 ≤ c.toNat ∨ n = 0 → exec (.assign c n) s = .next (s.answering (.assign c n) (refusal .badValue)))
      ∧ ∀ b : Bay, c.toNat = b.val → n ≠ 0 →
          (s.bays[b].state ≠ .held .tagFail → (∀ h, s.bays[b].state ≠ .held (.conflict h)) →
              exec (.assign c n) s = .next (s.answering (.assign c n) (refusal .wrongState)))
            ∧ (s.bays[b].state = .held .tagFail ∨ (∃ h, s.bays[b].state = .held (.conflict h)) →
                (∀ i r, s.slotOf n = some i → s.table[i] = some r → r.place.bay?.isSome = true →
                    exec (.assign c n) s = .next (s.answering (.assign c n) (refusal .inUse)))
                  ∧ (∀ i r, s.slotOf n = some i → s.table[i] = some r → r.place.bay? = none →
                      exec (.assign c n) s = .next ((park i r b s).answering (.assign c n) (okay [])))
                  ∧ (∀ i, s.slotOf n = none → s.freeSlot = some i →
                      exec (.assign c n) s = .next ((park i created b s).answering (.assign c n) (okay [])))
                  ∧ (s.slotOf n = none → s.freeSlot = none →
                      exec (.assign c n) s = .next (s.answering (.assign c n) (refusal .full))))

/-- R8, R9, R41, R76: what entering PARKED leaves. The record is PARKED at the bay with its running figures restarted and
the bay's door figures; the bay refers to it and is SERVING with power on, or FAULT with power off while the over-current
state is TRIPPED; both channels are due only in SERVING. The order of the reports at a HELD bay is log 13's. -/
def Obligations.ParkingRestartsTheRecord : Prop :=
  ∀ (s : State) (i : SlotIx) (r : Record) (b : Bay),
    let t := park i r b s
    t.table = s.table.set i.val (some { r with
        place := .parked b s.timer.number
        fuel := { r.fuel with filtered := none, baseline := none, errorRun := 0 }
        probe := { r.probe with coil := none, errorRun := 0 }
        defrost := { r.defrost with
          state := .idle, intervalCount := r.settings.interval * 60, heatRounds := 0, dripCount := 0 }
        door := s.doors[b].figures })
      ∧ (s.doors[b].ovc = .clear →
          t.bays = s.bays.set b.val { s.bays[b] with
            state := .serving, ref := some i, powerOn := true, powerGood := decide (s.powerGoodMs = 0),
            wait := if s.powerGoodMs = 0 then none else some s.powerGoodMs }
          ∧ t.converter = s.converter.modBayChannels b (fun _ =>
              { fuel := { countdown := s.converter.fuelEvery, due := some s.timer.number },
                probe := { countdown := s.converter.probeEvery, due := some s.timer.number } })
          ∧ t.notices = (raiseAt .parked b (some r.number) (some (.origin r.origin)) (ceaseHeld b s)).notices)
      ∧ (s.doors[b].ovc = .tripped →
          t.bays = s.bays.set b.val { s.bays[b] with
            state := .fault, ref := some i, powerOn := false, powerGood := false, wait := none }
          ∧ t.converter = s.converter
          ∧ t.notices = (presentAt .overcurrent b (some r.number) none
              (raiseAt .parked b (some r.number) (some (.origin r.origin)) (ceaseHeld b s))).notices)
      ∧ t = { s with table := t.table, bays := t.bays, converter := t.converter, notices := t.notices }

/-- R22, R101: REBASE sets the baseline to the filtered level and ends FUEL_DROP at the bay of a PARKED record. -/
def Obligations.RebaseSetsBaselineToLevel : Prop :=
  ∀ (s : State) (n : TrailerNo), s.ready →
    (n = 0 → exec (.rebase n) s = .next (s.answering (.rebase n) (refusal .badValue)))
      ∧ (n ≠ 0 → s.slotOf n = none → exec (.rebase n) s = .next (s.answering (.rebase n) (refusal .notFound)))
      ∧ ∀ i r, n ≠ 0 → s.slotOf n = some i → s.table[i] = some r →
          (r.fuel.filtered = none ∨ r.fuel.baseline = none →
              exec (.rebase n) s = .next (s.answering (.rebase n) (refusal .wrongState)))
            ∧ ∀ f v, r.fuel.filtered = some f → r.fuel.baseline = some v →
                let based : State := s.putSlot i (some { r with fuel := { r.fuel with baseline := some f } })
                (r.place.bay? = none → exec (.rebase n) s = .next (based.answering (.rebase n) (okay [])))
                  ∧ ∀ b : Bay, r.place.bay? = some b →
                      exec (.rebase n) s = .next (((ceaseIf s.conditions[b].fuelDrop .fuelDrop b based).modCond b
                        (fun c => { c with fuelDrop := false })).answering (.rebase n) (okay []))

/-! ## Defrost cycle (R114 to R124) -/

/-- R122, R123: DEFROST_NOW makes a PARKED record's request URGENT, reloading an IDLE record's count and keeping a
WAITING one's; DEFROST_STOP withdraws a WAITING request, ends heating by R117, and leaves IDLE and DRIPPING as they are.
-/
def Obligations.DefrostCommandsActByState : Prop :=
  ∀ (s : State) (n : TrailerNo), s.ready →
    (n = 0 → exec (.defrostNow n) s = .next (s.answering (.defrostNow n) (refusal .badValue))
        ∧ exec (.defrostStop n) s = .next (s.answering (.defrostStop n) (refusal .badValue)))
      ∧ (n ≠ 0 → s.slotOf n = none → exec (.defrostNow n) s = .next (s.answering (.defrostNow n) (refusal .notFound))
          ∧ exec (.defrostStop n) s = .next (s.answering (.defrostStop n) (refusal .notFound)))
      ∧ ∀ i r, n ≠ 0 → s.slotOf n = some i → s.table[i] = some r →
          let load := r.settings.interval * 60
          let put (d : DefrostFigures) : State := s.putSlot i (some { r with defrost := d })
          (r.place.bay? = none ∨ r.defrost.state.code = 2 ∨ r.defrost.state.code = 3 →
              exec (.defrostNow n) s = .next (s.answering (.defrostNow n) (refusal .wrongState)))
            ∧ (r.place.bay?.isSome = true → r.defrost.state = .idle →
                exec (.defrostNow n) s
                  = .next ((put { r.defrost with state := .waiting .urgent, intervalCount := load }).answering
                      (.defrostNow n) (okay [])))
            ∧ (∀ c, r.place.bay?.isSome = true → r.defrost.state = .waiting c →
                exec (.defrostNow n) s
                  = .next ((put { r.defrost with state := .waiting .urgent }).answering (.defrostNow n) (okay [])))
            ∧ (r.defrost.state = .idle ∨ r.defrost.state = .dripping →
                exec (.defrostStop n) s = .next (s.answering (.defrostStop n) (okay [])))
            ∧ (∀ c, r.defrost.state = .waiting c →
                exec (.defrostStop n) s
                  = .next ((put { r.defrost with state := .idle, intervalCount := load }).answering
                      (.defrostStop n) (okay [])))
            ∧ ∀ g b, r.defrost.state = .heating g → r.place.bay? = some b →
                exec (.defrostStop n) s = .next ((endHeating b r s).answering (.defrostStop n) (okay []))

/-- R114, R115, R117, R119, R121: what one round start does to the defrost figures of the record `r` at bay `b`, state
by state; and every end of heating, at the defrost figures `d` it is given, releases the grant, switches the permit off,
counts a completed defrost, goes on to DRIPPING or IDLE, and raises DEFROST_END with the heat rounds. -/
def Obligations.RoundStartAdvancesOneDefrostCount : Prop :=
  (∀ (s : State) (b : Bay) (i : SlotIx) (r : Record), s.bays[b].ref = some i → s.table[i] = some r →
      let load := r.settings.interval * 60
      let clock : Bool := r.settings.clockMode == .wall || s.doors[b].run == .running
      let put (d : DefrostFigures) : State := s.putSlot i (some { r with defrost := d })
      (clock = false → (r.defrost.state = .idle ∨ ∃ c, r.defrost.state = .waiting c) → defrostRound b s = s)
        ∧ (clock = true → r.defrost.state = .idle → 1 < r.defrost.intervalCount →
            defrostRound b s = put { r.defrost with intervalCount := r.defrost.intervalCount - 1 })
        ∧ (clock = true → r.defrost.state = .idle → r.defrost.intervalCount = 1 →
            defrostRound b s = put { r.defrost with state := .waiting .normal, intervalCount := load })
        ∧ (∀ c, clock = true → r.defrost.state = .waiting c → 1 < r.defrost.intervalCount →
            defrostRound b s = put { r.defrost with intervalCount := r.defrost.intervalCount - 1 })
        ∧ (∀ c, clock = true → r.defrost.state = .waiting c → r.defrost.intervalCount = 1 →
            defrostRound b s = raiseAt .defrostLate b (some r.number) none
              (put { r.defrost with state := .waiting .urgent, intervalCount := load }))
        ∧ (∀ g, r.defrost.state = .heating g → r.defrost.heatRounds + 1 < r.settings.maxHeat →
            defrostRound b s = put { r.defrost with heatRounds := r.defrost.heatRounds + 1 })
        ∧ (∀ g, r.defrost.state = .heating g → r.settings.maxHeat ≤ r.defrost.heatRounds + 1 →
            defrostRound b s = endHeating b { r with defrost := { r.defrost with heatRounds := r.defrost.heatRounds + 1 } }
              (raiseAt .defrostLong b (some r.number) (some (.rounds (r.defrost.heatRounds + 1))) s))
        ∧ (r.defrost.state = .dripping → 1 < r.defrost.dripCount →
            defrostRound b s = put { r.defrost with dripCount := r.defrost.dripCount - 1 })
        ∧ (r.defrost.state = .dripping → r.defrost.dripCount = 1 →
            defrostRound b s = put { r.defrost with state := .idle, dripCount := 0, intervalCount := load }))
    ∧ (∀ (s : State) (b : Bay) (i : SlotIx) (r : Record) (d : DefrostFigures),
        s.bays[b].ref = some i → s.table[i] = some r →
        endHeating b { r with defrost := d } s = raiseAt .defrostEnd b (some r.number) (some (.rounds d.heatRounds))
          { s with
            feeder := { s.feeder with grants := s.feeder.grants.filter (fun g => g.bay != b) }
            heat := s.heat.set b.val false
            table := s.table.set i.val (some { r with defrost :=
              if r.settings.drip = 0 then
                { d with state := .idle, completed := min 65535 (d.completed + 1),
                         intervalCount := r.settings.interval * 60 }
              else
                { d with state := .dripping, completed := min 65535 (d.completed + 1),
                         dripCount := r.settings.drip } }) })

/-! ## Bays (R37, R38, R41 to R53, R145) -/

/-- R46, R49, R120: BAY_DISABLE, state by state: power off in DISABLED, the reference and the sense state kept, the
identification, the held state, the service or the fault ended. A record whose bay leaves SERVING so keeps its defrost:
HEATING returns to WAITING with the granted class and the permit off, and a grant leaves the list. -/
def Obligations.BayDisableEndsTheBaysWork : Prop :=
  (∀ (s : State) (c : Byte), s.ready →
      (16 ≤ c.toNat → exec (.bayDisable c) s = .next (s.answering (.bayDisable c) (refusal .badValue)))
        ∧ ∀ b : Bay, c.toNat = b.val →
            let off : State := s.modBay b (fun x =>
              { x with state := .disabled, powerOn := false, powerGood := false, wait := none })
            let answers (t : State) : Prop :=
              exec (.bayDisable c) s = .next (t.answering (.bayDisable c) (okay []))
            (s.bays[b].state = .disabled → answers s)
              ∧ (s.bays[b].state = .empty → answers off)
              ∧ (s.bays[b].state = .identifying →
                  answers { off with reader := s.reader.remove s.timer.timeUs b })
              ∧ (∀ h, s.bays[b].state = .held h → answers { off with notices := (ceaseAt h.kind b s).notices })
              ∧ (s.bays[b].state = .serving → answers (defrostLeavesServing b
                  { off with converter := s.converter.bayLeaves s.timer.remaining b }))
              ∧ (s.bays[b].state = .fault → answers { off with notices := (ceaseAt .overcurrent b s).notices }))
    ∧ (∀ (s : State) (b : Bay),
        let released : State := { s with feeder :=
          { s.feeder with grants := s.feeder.grants.filter (fun g => g.bay != b) } }
        (∀ i r g, s.bays[b].ref = some i → s.table[i] = some r → r.defrost.state = .heating g →
            defrostLeavesServing b s
              = { released.putSlot i (some { r with defrost := { r.defrost with state := .waiting g } }) with
                  heat := s.heat.set b.val false })
          ∧ (s.heatingAt b = false → defrostLeavesServing b s = released))

/-- R41, R48, R51: BAY_ENABLE moves a DISABLED bay to SERVING or FAULT with its record, to IDENTIFYING at the tail of the
identify queue, or to EMPTY, and leaves a bay in another state. CLEAR_FAULT's checks in their order; with all passed
OVERCURRENT ceases and the bay enters SERVING. -/
def Obligations.EnableAndClearFaultReturnTheBay : Prop :=
  (∀ (s : State) (c : Byte), s.ready →
      (16 ≤ c.toNat → exec (.bayEnable c) s = .next (s.answering (.bayEnable c) (refusal .badValue)))
        ∧ ∀ b : Bay, c.toNat = b.val →
            let answers (t : State) : Prop :=
              exec (.bayEnable c) s = .next (t.answering (.bayEnable c) (okay []))
            let become (st : BayState) : State := s.modBay b (fun x =>
              { x with state := st, powerOn := false, powerGood := false, wait := none })
            (s.bays[b].state ≠ .disabled → answers s)
              ∧ (∀ i, s.bays[b].state = .disabled → s.bays[b].ref = some i → s.doors[b].ovc = .clear →
                  answers { s.modBay b (fun x => { x with
                      state := .serving, powerOn := true, powerGood := decide (s.powerGoodMs = 0),
                      wait := if s.powerGoodMs = 0 then none else some s.powerGoodMs }) with
                    converter := s.converter.bayEnters s.timer.number b })
              ∧ (∀ i, s.bays[b].state = .disabled → s.bays[b].ref = some i → s.doors[b].ovc = .tripped →
                  answers { become .fault with
                    notices := (presentAt .overcurrent b (s.trailerAt b) none s).notices })
              ∧ (s.bays[b].state = .disabled → s.bays[b].ref = none → s.bays[b].connected = true →
                  answers { become .identifying with reader := s.reader.append s.timer.timeUs b })
              ∧ (s.bays[b].state = .disabled → s.bays[b].ref = none → s.bays[b].connected = false →
                  answers (become .empty)))
    ∧ (∀ (s : State) (c : Byte), s.ready →
        (16 ≤ c.toNat → exec (.clearFault c) s = .next (s.answering (.clearFault c) (refusal .badValue)))
          ∧ ∀ b : Bay, c.toNat = b.val →
              (s.bays[b].state ≠ .fault →
                  exec (.clearFault c) s = .next (s.answering (.clearFault c) (refusal .wrongState)))
                ∧ (s.bays[b].state = .fault → s.doors[b].ovc = .tripped →
                    exec (.clearFault c) s = .next (s.answering (.clearFault c) (refusal .busy)))
                ∧ (s.bays[b].state = .fault → s.doors[b].ovc = .clear →
                    exec (.clearFault c) s = .next (({ s.modBay b (fun x => { x with
                        state := .serving, powerOn := true, powerGood := decide (s.powerGoodMs = 0),
                        wait := if s.powerGoodMs = 0 then none else some s.powerGoodMs }) with
                      notices := (ceaseAt .overcurrent b s).notices
                      converter := s.converter.modBayChannels b (fun _ =>
                        { fuel := { countdown := s.converter.fuelEvery, due := some s.timer.number },
                          probe := { countdown := s.converter.probeEvery, due := some s.timer.number } })
                      }).answering (.clearFault c) (okay []))))

/-- R10, R38, R50, R52, R53, R56, R57, R64, R76, R84, R143: a connect makes an EMPTY bay IDENTIFYING at the tail of the
identify queue and leaves a DISABLED bay DISABLED; in both the door watch begins afresh. A disconnect departs the record
with the LEFT event, empties the bay (a DISABLED bay stays DISABLED), takes it out of the reader and the converter, ends
its conditions in the order of R52 and its heat, returns the door watch to its unwatched values, and changes nothing of
another bay or record. The rows are the accepted events by themselves, with the line standing at the level accepted (log
9). How a bay joins and leaves the identify queue, and how one leaves the converter. The model's choice: a read that
begins stands at the time base (log 23). -/
def Obligations.ConnectIdentifiesAndDisconnectEmpties : Prop :=
  (∀ (s : State) (b : Bay), s.resetting = none → s.bays[b].connected = false →
      let seen : State := { s.modBay b (fun x => { x with connected := true, differing := 0 }) with
        doors := s.doors.set b.val .unwatched
        outside := { s.outside with lines := s.outside.lines.set b.val { s.outside.lines[b] with sense := true } } }
      (s.bays[b].state = .empty → exec (.connect b) s = .next
          { seen.modBay b (fun x =>
              { x with state := .identifying, powerOn := false, powerGood := false, wait := none }) with
            reader := s.reader.append s.timer.timeUs b })
        ∧ (s.bays[b].state = .disabled → exec (.connect b) s = .next seen))
    ∧ (∀ (s : State) (b : Bay), s.resetting = none → s.bays[b].connected = true →
        ∃ t : State, exec (.disconnect b) s = .next t
          ∧ (∀ c : Bay, t.bays[c] = if c ≠ b then s.bays[c] else
              { state := if s.bays[b].state = .disabled then .disabled else .empty, connected := false, differing := 0,
                powerOn := false, powerGood := false, wait := none,
                ref := if (s.recordAt b).isSome then none else s.bays[b].ref })
          ∧ t.doors = s.doors.set b.val .unwatched
          ∧ t.reader = s.reader.remove s.timer.timeUs b
          ∧ t.converter = s.converter.bayLeaves s.timer.remaining b
          ∧ t.conditions = s.conditions.set b.val .none
          ∧ t.outside =
              { s.outside with lines := s.outside.lines.set b.val { s.outside.lines[b] with sense := false } }
          ∧ (∀ i r since, s.bays[b].ref = some i → s.table[i] = some r → r.place = .parked b since →
              t.table = s.table.set i.val (some { r with
                  place := .departed b since s.timer.number
                  defrost := { r.defrost with state := .idle, dripCount := 0 } })
                ∧ t.heat = s.heat.set b.val false
                ∧ t.feeder = { s.feeder with grants := s.feeder.grants.filter (fun g => g.bay != b) })
          ∧ (s.recordAt b = none → t.table = s.table ∧ t.heat = s.heat ∧ t.feeder = s.feeder)
          ∧ (let left : Notices := match s.recordAt b with
               | some r => s.notices.raise s.timer.number (.bay .left b) (some r.number) none
               | none => s.notices
             let present : List (Bool × BayKind) :=
               [(s.bays[b].state = .held .tagFail, .tagFail),
                (match s.bays[b].state with | .held (.conflict _) => true | _ => false, .tagConflict),
                (match s.bays[b].state with | .held (.tableFull _) => true | _ => false, .tableFull),
                (s.bays[b].state = .fault, .overcurrent), (s.conditions[b].probeFault, .probeFault),
                (s.conditions[b].fuelLow, .fuelLow), (s.conditions[b].fuelDrop, .fuelDrop),
                (s.conditions[b].senderFault, .senderFault), (s.doors[b].doorLong, .doorLong)]
             t.notices = present.foldl
               (fun n x => if x.1 = true then n.cease s.timer.number (.bay x.2 b) else n) left)
          ∧ t = { s with
              bays := t.bays, doors := t.doors, reader := t.reader, converter := t.converter, table := t.table,
              conditions := t.conditions, heat := t.heat, feeder := t.feeder, notices := t.notices, outside := t.outside })
    ∧ (∀ (now : Nat) (b : Bay) (r : Reader),
        r.append now b =
            { state := if r.state = .idle then .attempt 1 now .wake else r.state, queue := r.queue ++ [b],
              ahead := if r.state = .idle then 0 else r.ahead }
          ∧ (∀ rest, r.queue = b :: rest → r.remove now b =
              { state := if rest = [] then .idle else .attempt 1 now .wake, queue := rest, ahead := 0 })
          ∧ (∀ head rest, r.queue = head :: rest → head ≠ b →
              r.remove now b = { r with queue := head :: rest.erase b })
          ∧ (r.queue = [] → r.remove now b = r))
    ∧ (∀ (remaining : Nat) (b : Bay) (c : Converter),
        let removed : Converter := { c with
          channels := c.channels.set b.val
            { fuel := { c.channels[b].fuel with due := none }, probe := { c.channels[b].probe with due := none } }
          spot := c.spot.filter (fun x => x.bay ≠ b)
          sweep := c.sweep.map (fun l => l.filter (fun x => x.bay ≠ b)) }
        ((∀ ch, c.stage.channel = some ch → ch.bay ≠ b) → c.bayLeaves remaining b = removed)
          ∧ ∀ ch, c.stage.channel = some ch → ch.bay = b → c.bayLeaves remaining b = removed.takeNext remaining)

/-- R43, R45 to R47, R145, R146: an acceptance on the run line changes the run state alone; one on the over-current line
changes the over-current state, and TRIPPED at a SERVING bay also enters FAULT with OVERCURRENT present; the end of a
power-good wait makes power good. The rows are the accepted events by themselves, with the line standing at the level
accepted (log 9). -/
def Obligations.RunTripAndWaitEvents : Prop :=
  ∀ (s : State) (b : Bay), s.resetting = none →
    let stands (x : LineSample) : State := { s with outside := { s.outside with lines := s.outside.lines.set b.val x } }
    (∀ active : Bool, s.bays[b].connected = true → s.doors[b].run ≠ (if active then .running else .stopped) →
        exec (.runAcceptance b active) s
          = .next ((stands { s.outside.lines[b] with run := active }).modDoor b (fun d => { d with
              run := if active then .running else .stopped, runLine := { candidate := none, run := 0 } })))
      ∧ (∀ closed : Bool, s.bays[b].connected = true → s.doors[b].ovc ≠ (if closed then .clear else .tripped) →
          let accepted : State := (stands { s.outside.lines[b] with ovc := closed }).modDoor b (fun d => { d with
            ovc := if closed then .clear else .tripped, ovcLine := { candidate := none, run := 0 } })
          (closed = true ∨ s.bays[b].state ≠ .serving →
              exec (.overcurrentAcceptance b closed) s = .next accepted)
            ∧ (closed = false → s.bays[b].state = .serving →
                exec (.overcurrentAcceptance b closed) s = .next (defrostLeavesServing b
                  { accepted.modBay b (fun x =>
                      { x with state := .fault, powerOn := false, powerGood := false, wait := none }) with
                    notices := (presentAt .overcurrent b (s.trailerAt b) none s).notices
                    converter := s.converter.bayLeaves s.timer.remaining b })))
      ∧ (∀ w, s.bays[b].wait = some w →
          exec (.powerGoodWaitEnd b) s = .next (s.modBay b (fun x => { x with powerGood := true, wait := none })))

/-- R147, R150, R152, Table 47: an acceptance on the door loop, row by row, with the figures mirrored into the record
that the bay refers to, if it refers to one; a notice carries that record's trailer number. The rows are the accepted
events by themselves, with the line standing at the level accepted (log 9). -/
def Obligations.DoorAcceptancesAsTable47 : Prop :=
  ∀ (s : State) (b : Bay), s.resetting = none → s.bays[b].connected = true →
    let f := s.doors[b].figures
    let now := s.timer.number
    let moved (g : DoorFigures) (settle : Nat) (long : Bool) : State :=
      let x : LineSample := { s.outside.lines[b] with door := decide (g.state = .shut) }
      let stands : State := { s with outside := { s.outside with lines := s.outside.lines.set b.val x } }
      (stands.modParked b (fun r => { r with door := g })).modDoor b (fun d =>
        { d with figures := g, settle := settle, doorLong := long, doorLine := { candidate := none, run := 0 } })
    let guard (t : State) (asked : Bool) : State := if asked then raiseAt .doorGuard b (s.trailerAt b) none t else t
    (f.state = .shut → exec (.doorAcceptance b false) s = .next (guard
        (moved { state := .opened, openings := min 65535 (f.openings + 1), openRounds := 0, lastChange := some now }
          0 s.doors[b].doorLong) (s.guard != .off)))
      ∧ (f.state = .opened → exec (.doorAcceptance b true) s = .next (guard
          (ceaseIf s.doors[b].doorLong .doorLong b
            (moved { f with state := .shut, lastChange := some now } s.settleRounds false)) (s.guard == .any)))
      ∧ (f.state = .unknown → exec (.doorAcceptance b true) s = .next
          (moved { f with state := .shut, lastChange := some now } s.settleRounds s.doors[b].doorLong))
      ∧ (f.state = .unknown → exec (.doorAcceptance b false) s = .next
          (moved { f with state := .opened, openRounds := 0, lastChange := some now }
            s.doors[b].settle s.doors[b].doorLong))

/-- R148, R149, R152: at a round start a watched bay counts its open rounds or its settle count by its door state, and
DOOR_LONG is then judged against the limit that applies; an unwatched bay does nothing. -/
def Obligations.RoundStartCountsAndJudgesTheDoor : Prop :=
  ∀ (s : State) (b : Bay),
    (s.bays[b].connected = false → doorRound b s = s)
      ∧ (s.bays[b].connected = true →
          let d := s.doors[b]
          let f : DoorFigures :=
            if d.figures.state = .opened then { d.figures with openRounds := min 65535 (d.figures.openRounds + 1) }
            else d.figures
          let limit : Nat := match s.recordAt b with
            | none => 1800
            | some r => if d.run = .running then r.settings.doorRunning else r.settings.doorStopped
          let long : Bool := decide (d.figures.state = .opened ∧ limit ≤ f.openRounds)
          let counted : State :=
            (if d.figures.state = .opened then s.modParked b (fun r => { r with door := f }) else s).modDoor b
              (fun x => { x with
                figures := f, doorLong := long, settle := if d.figures.state = .shut then d.settle - 1 else d.settle })
          doorRound b s =
            if long = d.doorLong then counted
            else if long then presentAt .doorLong b (s.trailerAt b) (some (.rounds f.openRounds)) counted
            else ceaseAt .doorLong b counted)

/-- R35, R37, R144: a line sample tick is the samples of its bays, one bay after another; the lines then stand at those
levels, and the next tick comes 10 ms of the time base behind this one's instant (R35; the row is the next tick that has
still to come: log 4). At one bay the sense line is taken before or behind the other three, as the sample says; the tick
of a connect samples no other line, and an unwatched bay only its sense line. The sense run counts samples that differ
from the accepted state, and the fifth is a connect or a disconnect; each watched line's run counts samples of one new
level, and the third is an acceptance. The order of bays is the operand's (log 10); the order of lines at a bay is the
model's choice (log 12). -/
def Obligations.LineSampleTickCountsSamples : Prop :=
  ∀ (samples : Vector LineSample 16) (order : List Bay) (s : State), s.resetting = none →
    exec (.lineSampleTick samples order) s
        = .next ((completeOrder order).foldl (fun t b => bayTick samples b t) { s with
            timer := { s.timer with tickUs := s.timer.tickUs + 10000 }, outside := { s.outside with lines := samples } })
      ∧ (order.Nodup → (completeOrder order).Perm allBays)
      ∧ (∀ b : Bay,
          let x := samples[b]
          let watched (t : State) : State :=
            if t.bays[b].connected = true then ovcSample b x.ovc (runSample b x.run (doorSample b x.door t)) else t
          (x.senseFirst = false → bayTick samples b s = senseSample b x.sense (watched s))
            ∧ (x.senseFirst = true → s.bays[b].connected = true → bayTick samples b s = watched (senseSample b x.sense s))
            ∧ (x.senseFirst = true → s.bays[b].connected = false → bayTick samples b s = senseSample b x.sense s))
      ∧ ∀ (b : Bay) (level : Bool),
          let d := s.doors[b]
          let third (x : Line) : Prop := x.candidate = some level ∧ x.run = 2
          let counted (x : Line) : Line :=
            { candidate := some level, run := if x.candidate = some level then x.run + 1 else 1 }
          let fresh : Line := { candidate := none, run := 0 }
          let x := s.outside.lines[b]
          let stands (x : LineSample) : State := { s with outside := { s.outside with lines := s.outside.lines.set b.val x } }
          ((level = s.bays[b].connected → senseSample b level s = s.modBay b (fun x => { x with differing := 0 }))
            ∧ (level ≠ s.bays[b].connected → s.bays[b].differing < 4 →
                senseSample b level s = s.modBay b (fun x => { x with differing := x.differing + 1 }))
            ∧ (level ≠ s.bays[b].connected → s.bays[b].differing = 4 →
                .next (senseSample b level (stands { x with sense := level })) = exec (if level then .connect b else .disconnect b) s))
            ∧ (let same : Prop := d.figures.state = if level then .shut else .opened
               (same → doorSample b level s = s.modDoor b (fun d => { d with doorLine := fresh }))
                 ∧ (¬ same → ¬ third d.doorLine → d.doorLine.run ≤ 2 →
                      doorSample b level s = s.modDoor b (fun d => { d with doorLine := counted d.doorLine }))
                 ∧ (¬ same → third d.doorLine → s.bays[b].connected = true →
                      .next (doorSample b level (stands { x with door := level })) = exec (.doorAcceptance b level) s))
            ∧ (let same : Prop := d.run = if level then .running else .stopped
               (same → runSample b level s = s.modDoor b (fun d => { d with runLine := fresh }))
                 ∧ (¬ same → ¬ third d.runLine → d.runLine.run ≤ 2 →
                      runSample b level s = s.modDoor b (fun d => { d with runLine := counted d.runLine }))
                 ∧ (¬ same → third d.runLine → s.bays[b].connected = true →
                      .next (runSample b level (stands { x with run := level })) = exec (.runAcceptance b level) s))
            ∧ (let same : Prop := d.ovc = if level then .clear else .tripped
               (same → ovcSample b level s = s.modDoor b (fun d => { d with ovcLine := fresh }))
                 ∧ (¬ same → ¬ third d.ovcLine → d.ovcLine.run ≤ 2 →
                      ovcSample b level s = s.modDoor b (fun d => { d with ovcLine := counted d.ovcLine }))
                 ∧ (¬ same → third d.ovcLine → s.bays[b].connected = true →
                      .next (ovcSample b level (stands { x with ovc := level })) = exec (.overcurrentAcceptance b level) s))

/-! ## Tag reader (R12 to R15, R55 to R64) -/

/-- R58 to R60, R63, R65: the events of an attempt short of its judgement, each at its instant: the wake pulse ends 500
us into the attempt; presence is recognised in the window, 600 to 900 us into it, and slot 0 begins there; the window
closes at 900 us with the line high; slot k is sampled 60 us into it, 250 k + 60 us after slot 0 began, its bit enters
the shift byte at the top place and every eighth is stored; the first two failures lead to SPACING; the spacing's end
begins the next attempt 50 ms after the start of the last. The head's tag line alone is driven low, in WAKE and in the
first 20 us of each of the forty 250 us slots, and the head's line alone is looked at, at every instant of the presence
window and at the sample instant of each slot. The model's choices: a row is its event at the event's own instant, to
which the read comes, and stays there where rows have brought it further on; the kept instant `began`, and the field
`ahead`, in which the read's instant is kept (log 4, log 23); the head's line stands at the level that the row brings
(log 4); the instant from which the spacing runs (log 25). -/
def Obligations.AttemptPhasesFollow : Prop :=
  ∀ (s : State) (n start : Nat), s.resetting = none →
    let now := s.timer.timeUs
    let read := now + s.reader.ahead
    let at' (instant : Nat) (st : ReaderState) : State :=
      { s with reader := { s.reader with state := st, ahead := max read instant - now } }
    let seen (high : Bool) (t : State) : State := { t with outside := { t.outside with
      tags := match s.reader.queue with | b :: _ => t.outside.tags.set b.val high | [] => t.outside.tags } }
    (s.reader.state = .attempt n start .wake →
        exec .wakeEnd s = .next (at' (start + 500) (.attempt n start .presence)))
      ∧ (s.reader.state = .attempt n start .presence → read ≤ start + 900 →
          let began := max read (start + 600)
          exec .presenceSeen s = .next (seen false (at' began (.attempt n start (.bits began 0 0 0 [])))))
      ∧ (s.reader.state = .attempt n start .presence → n < 3 →
          exec .presenceWindowClose s = .next (seen true (at' (start + 900) (.spacing n start))))
      ∧ (∀ b rest, s.reader.state = .attempt n start .presence → 3 ≤ n → s.reader.queue = b :: rest →
          exec .presenceWindowClose s = .next (hold b .tagFail { seen true s with reader :=
            { state := if rest = [] then .idle else .attempt 1 now .wake, queue := rest, ahead := 0 } }))
      ∧ (s.reader.state = .spacing n start →
          exec .spacingEnd s = .next (at' (start + 50000) (.attempt (n + 1) (start + 50000) .wake)))
      ∧ (∀ (began slot : Nat) (count : BitVec 3) (shift : Byte) (bytes : List Byte) (high : Bool),
          s.reader.state = .attempt n start (.bits began slot count shift bytes) → bytes.length < 5 →
            let k := 8 * bytes.length + count.toNat
            let sample := began + 250 * k + 60
            let slot' := if read ≤ sample then k else min 39 ((read - began) / 250)
            let shifted : Byte := BitVec.ofNat 8 (shift.toNat / 2 + if high then 128 else 0)
            exec (.bitSlotSample high) s = .next (seen high (at' sample (.attempt n start
              (if count = 7 then .bits began slot' 0 shifted (bytes ++ [shifted])
               else .bits began slot' (count + 1) shifted bytes)))))
      ∧ ∀ b : Bay,
          (s.reader.queue.head? ≠ some b → s.tagLineDriven b = false ∧ s.tagLineSampled b = false)
            ∧ (s.reader.queue.head? = some b → s.reader.state = .attempt n start .wake →
                s.tagLineDriven b = true ∧ s.tagLineSampled b = false)
            ∧ (s.reader.state = .idle ∨ s.reader.state = .spacing n start →
                s.tagLineDriven b = false ∧ s.tagLineSampled b = false)
            ∧ (s.reader.queue.head? = some b → s.reader.state = .attempt n start .presence →
                s.tagLineDriven b = false
                  ∧ (s.tagLineSampled b = true ↔ start + 600 ≤ read ∧ read ≤ start + 900))
            ∧ ∀ (began slot : Nat) (count : BitVec 3) (shift : Byte) (bytes : List Byte),
                s.reader.queue.head? = some b →
                s.reader.state = .attempt n start (.bits began slot count shift bytes) →
                (s.tagLineDriven b = true ↔ (read - began) / 250 < 40 ∧ (read - began) % 250 < 20)
                  ∧ (ReaderInv s → (s.tagLineSampled b = true ↔
                      bytes.length < 5 ∧ read = began + 250 * (8 * bytes.length + count.toNat) + 60))

/-- R12, R13, R57, R61 to R63: the check byte's arithmetic bit by bit over bytes 0 to 3 from 0, under which the frame of
every trailer number passes, and the judgement of an attempt: a good frame is matched in the table as it stands, a bad
one leads to SPACING or, at the third attempt, holds the bay for TAG_FAIL; the head leaves the queue and the next bay's
first attempt begins at once. The model's choice: the read comes to the end of slot 39, 10,000 us after slot 0 began, and
a read that begins stands at the time base (log 23). -/
def Obligations.JudgedAttemptDeliversItsOutcome : Prop :=
  (∀ (s : State) (n start began slot : Nat) (count : BitVec 3) (shift b0 b1 b2 b3 b4 : Byte) (b : Bay) (rest : List Bay),
      s.resetting = none → s.reader.queue = b :: rest →
      s.reader.state = .attempt n start (.bits began slot count shift [b0, b1, b2, b3, b4]) →
        let number : TrailerNo := b3 ++ b2 ++ b1 ++ b0
        let good : Prop := b4 = Reader.checkByte [b0, b1, b2, b3] ∧ number ≠ 0
        let freed : State := { s with reader :=
          { state := if rest = [] then .idle else .attempt 1 s.timer.timeUs .wake, queue := rest, ahead := 0 } }
        (¬ good → n < 3 →
            exec .attemptJudged s = .next { s with reader := { s.reader with
              state := .spacing n start
              ahead := max (s.timer.timeUs + s.reader.ahead) (began + 10000) - s.timer.timeUs } })
          ∧ (¬ good → 3 ≤ n → exec .attemptJudged s = .next (hold b .tagFail freed))
          ∧ (good →
              (∀ i r, s.slotOf number = some i → s.table[i] = some r → r.place.bay?.isSome = true →
                  exec .attemptJudged s = .next (hold b (.conflict number) freed))
                ∧ (∀ i r, s.slotOf number = some i → s.table[i] = some r → r.place.bay? = none →
                    exec .attemptJudged s = .next (park i r b freed))
                ∧ (∀ i, s.slotOf number = none → s.freeSlot = some i →
                    exec .attemptJudged s = .next (park i (Record.create number .unbooked .default) b freed))
                ∧ (s.slotOf number = none → s.freeSlot = none →
                    exec .attemptJudged s = .next (hold b (.tableFull number) freed))))
    ∧ ((∀ (reg : Byte) (bit : Bool), Reader.checkBit reg bit
          = BitVec.ofNat 8 ((2 * reg.toNat) % 256) ^^^ (if (bit != reg.getLsbD 7) then 7 else 0))
        ∧ (∀ b0 b1 b2 b3 : Byte, Reader.checkByte [b0, b1, b2, b3]
            = [b0, b1, b2, b3].foldl (fun reg v =>
                [0, 1, 2, 3, 4, 5, 6, 7].foldl (fun c i => Reader.checkBit c (v.getLsbD i)) reg) 0)
        ∧ (∀ n : TrailerNo, n ≠ 0 →
            Reader.judge (wordBytes n ++ [Reader.checkByte (wordBytes n)]) = some n)
        ∧ Reader.judge [0, 0, 0, 0, 0] = none)

/-- R13 to R15, R40: a bay that becomes HELD is off, with its reason and tag, its former held condition ended and the
new one present; a bay HELD already for the same reason and tag stays as it is. At a round start a bay HELD for a full
table matches its tag again: parked when a record or a FREE slot serves, HELD for CONFLICT when the number is PARKED
elsewhere, and unchanged while no slot is FREE. Other bays do not retry. -/
def Obligations.HoldingAndItsRetry : Prop :=
  (∀ (s : State) (b : Bay) (h : Held),
      (s.bays[b].state = .held h → hold b h s = s)
        ∧ (s.bays[b].state ≠ .held h → hold b h s
            = presentAt h.kind b none (h.tag.map .tag) ((ceaseHeld b s).modBay b (fun x =>
                { x with state := .held h, powerOn := false, powerGood := false, wait := none }))))
    ∧ (∀ (s : State) (b : Bay),
        ((∀ n, s.bays[b].state ≠ .held (.tableFull n)) → retry b s = s)
          ∧ ∀ n, s.bays[b].state = .held (.tableFull n) →
              (s.slotOf n = none → s.freeSlot = none → retry b s = s)
                ∧ (∀ i, s.slotOf n = none → s.freeSlot = some i →
                    retry b s = park i (Record.create n .unbooked .default) b s)
                ∧ (∀ i r, s.slotOf n = some i → s.table[i] = some r → r.place.bay? = none → retry b s = park i r b s)
                ∧ (∀ i r, s.slotOf n = some i → s.table[i] = some r → r.place.bay?.isSome = true →
                    retry b s = hold b (.conflict n) s))

/-! ## Resistance converter (R68 to R84) -/

/-- R67 to R73, R81: SELECT is followed by REFERENCE with its counters loaded. In REFERENCE and SENSOR each tick moves
the timebase counter by one and each oscillator cycle raises the cycle counter by one, up to the stage's end; on a
network the oscillator runs at the reference frequency times the reference resistance over the network's resistance, the
sender in series with 1000.0 ohms or the probe, in thousandths of an ohm. REFERENCE is followed by SENSOR with T held
where the cycle counter wraps first, else it ends in the error REFERENCE. SENSOR ends in SHORT at the counter's limit,
OPEN below 16, HIGH above 4000.0 ohms on a FUEL channel, else in the resistance. A reading is handed to the chain of its
kind and the converter takes the next head, tested against RESERVE_MS. That the rows which end the stages bring the
reference frequency and the channel's input to the stage's end is the model's choice (log 17). -/
def Obligations.StagesFollowAndGiveAReading : Prop :=
  let resistor (ch : Channel) : Nat := match ch.kind with | .fuel => 2000000 | .probe => 10000000
  (∀ (s : State) (ch : Channel), s.resetting = none →
      s.converter.stage = .select ch → exec .selectEnd s = .next { s with converter := { s.converter with
        stage := .reference ch 0 1046528, settle := 0, phase := 0 } })
    ∧ (∀ (o : Outside) (c : Converter), c.stage.ok → c.phaseOk o →
        c.run o 0 = c
          ∧ (∀ m n : Nat, c.run o (m + n) = (c.run o m).run o n)
          ∧ (c.stage = .idle → c.run o 1 = c)
          ∧ (∀ ch, c.stage = .select ch → c.run o 1 = { c with settle := c.settle - 1 })
          ∧ (∀ ch tb cy, c.stage = .reference ch tb cy →
              let gone := c.phase + o.referenceRate ch
              let counted := cy + gone / 4000000000
              (cy = 0 ∨ tb = 1048575 → c.run o 1 = c)
                ∧ (cy ≠ 0 → tb < 1048575 → c.run o 1 = { c with
                    stage := .reference ch (tb + 1) (if counted < 1048576 then counted else 0)
                    phase := gone % 4000000000 }))
          ∧ (∀ ch t tb cy, c.stage = .sensor ch t tb cy →
              let parts := 4000000000 * o.network ch
              let gone := c.phase + o.referenceRate ch * resistor ch
              (tb = 0 ∨ cy = 1048575 → c.run o 1 = c)
                ∧ (tb ≠ 0 → cy < 1048575 → c.run o 1 = { c with
                    stage := .sensor ch t (tb - 1) (min 1048575 (cy + gone / parts))
                    phase := gone % parts })))
    ∧ (∀ (o : Outside) (ch : Channel), o.referenceRate ch = match ch.kind with
        | .fuel => o.references.fuel
        | .probe => o.references.probe)
    ∧ (∀ (o : Outside) (ch : Channel), o.network ch = match ch.kind with
        | .fuel => (match o.inputs[ch.bay].fuel with | .load r => r + 1000000 | .fault r => max 1 r)
        | .probe => (match o.inputs[ch.bay].probe with | .load r => max 1 r | .fault r => max 1 r))
    ∧ (∀ (s : State) (ch : Channel) (tb cy rate : Nat), s.resetting = none →
        s.converter.stage = .reference ch tb cy → s.converter.stage.ok → s.converter.phaseOk s.outside →
          let o : Outside := { s.outside with references := match ch.kind with
            | .fuel => { s.outside.references with fuel := rate }
            | .probe => { s.outside.references with probe := rate } }
          let wrapped (k : Nat) : Prop := cy = 0 ∨ (1048576 - cy) * 4000000000 ≤ s.converter.phase + k * rate
          (∀ k, tb + k < 1048575 → wrapped k → (∀ j, j < k → ¬ wrapped j) →
              exec (.referenceEnd rate) s = .next { s with
                outside := o, converter := { s.converter with stage := .sensor ch (tb + k) (tb + k) 0, phase := 0 } })
            ∧ ((∀ k, tb + k < 1048575 → ¬ wrapped k) → exec (.referenceEnd rate) s = .next
                { deliverReading ch (.error .reference) s with
                  outside := o, converter := s.converter.takeNext s.timer.remaining }))
    ∧ (∀ (s : State) (ch : Channel) (h tb cy : Nat) (input : ChannelInput), s.resetting = none →
        s.converter.stage = .sensor ch h tb cy → s.converter.stage.ok → s.converter.phaseOk s.outside →
          let o : Outside := { s.outside with inputs := s.outside.inputs.set ch.bay.val (match ch.kind with
            | .fuel => { s.outside.inputs[ch.bay] with fuel := input }
            | .probe => { s.outside.inputs[ch.bay] with probe := input }) }
          let phase := s.converter.phase * o.network ch / s.outside.network ch
          let n := min 1048575 (cy + (phase + tb * (o.referenceRate ch * resistor ch)) / (4000000000 * o.network ch))
          let done (x : Reading) : Prop := exec (.sensorEnd input) s = .next
            { deliverReading ch x s with outside := o, converter := s.converter.takeNext s.timer.remaining }
          let fuel := (2 * 40960000 + n) / (2 * n)
          (n = 1048575 → done (.error .short))
            ∧ (n < 16 → done (.error .opened))
            ∧ (16 ≤ n → n < 1048575 → ch.kind = .fuel → 40000 < fuel → done (.error .high))
            ∧ (16 ≤ n → n < 1048575 → ch.kind = .fuel → fuel ≤ 40000 → done (.resistance (fuel - 10000)))
            ∧ (16 ≤ n → n < 1048575 → ch.kind = .probe → done (.resistance ((2 * 20480000 + n) / (2 * n)))))
    ∧ (∀ (s : State) (b : Bay) (r : Nat) (e : ErrorKind),
        deliverReading { bay := b, kind := .fuel } (.resistance r) s = fuelResult b r s
          ∧ deliverReading { bay := b, kind := .fuel } (.error e) s = fuelError b e s
          ∧ deliverReading { bay := b, kind := .probe } (.resistance r) s = probeResult b r s
          ∧ deliverReading { bay := b, kind := .probe } (.error e) s = probeError b e s)
    ∧ (∀ (c : Converter) (remaining : Nat),
        (c.sweep = none ∨ c.sweep = some [] → c.takeNext remaining = { c with stage := .idle, sweep := none })
          ∧ ∀ ch rest, c.sweep = some (ch :: rest) →
              (remaining < c.reserveMs → c.takeNext remaining = { c with stage := .idle, sweep := none })
                ∧ (c.reserveMs ≤ remaining → c.takeNext remaining =
                    { c.modChannel ch (fun x => { x with due := none }) with
                      stage := .select ch, sweep := some rest, spot := c.spot.erase ch, settle := 4000 }))

/-- R71, R72: the FUEL result is that of the 2000.0 ohm reference times 2048 over the count, rounded to nearest with
halves up, HIGH above 4000.0 ohms, which is every count from 16 to 1023, else less the 1000.0 ohm series resistor,
floored at 0. The PROBE result is the 10,000 ohm reference times 2048 over the count, rounded so; it lies in
20..1,280,000 ohms and is never HIGH. -/
def Obligations.ResistancesRoundToNearest : Prop :=
  (∀ n : Nat, 16 ≤ n →
      (∃ q : Nat, 2 * q * n ≤ 2 * 40960000 + n ∧ 2 * 40960000 + n < 2 * (q + 1) * n
          ∧ fuelReading n = if 40000 < q then .error .high else .resistance (q - 10000))
        ∧ (fuelReading n = .error .high ↔ n ≤ 1023)
        ∧ (∀ r, fuelReading n = .resistance r → r ≤ 30000))
    ∧ (∀ n : Nat, 16 ≤ n → n < 1048575 →
        ∃ q : Nat, probeReading n = .resistance q ∧ 2 * q * n ≤ 2 * 20480000 + n ∧ 2 * 20480000 + n < 2 * (q + 1) * n
          ∧ 20 ≤ q ∧ q ≤ 1280000)

/-- R27, R28, R79 to R82: a sweep start of the round in progress comes at its offset, where no point before it has still
to come, with round remaining at ROUND_MS less SWEEP_AT; one with nothing in the list closes the sweep; with no
conversion in flight the head is tested against RESERVE_MS and begins or closes it; with one in flight the list waits.
Tier 3 of the list stands by the age of the due round, PROBE before FUEL, then the lower bay. SPOT's checks in their
order, and the channel appended at the tail of the spot list. -/
def Obligations.SweepAndSpotListsAreBuilt : Prop :=
  (∀ s : State, s.resetting = none → s.timer.points.sweep = .outstanding →
      (∀ q, s.timer.points.get q = .outstanding → s.timer.inForce.sweepAt ≤ s.timer.inForce.pointAt q) →
      let now := s.timer.number
      let u : State := { s with timer := { s.timer with
        remaining := s.timer.inForce.roundMs - s.timer.inForce.sweepAt
        points := { s.timer.points with sweep := .taken } } }
      let due := Converter.dueList now s.converter
      let list := ((allBays.filter s.heatingAt).map (fun b => ({ bay := b, kind := .probe } : Channel))
        ++ s.converter.spot ++ due).eraseDups.filter (fun x => s.converter.stage.channel != some x)
      (list = [] → exec .sweepStart s = .next { u with converter := { s.converter with sweep := none } })
        ∧ (list ≠ [] → s.converter.stage ≠ .idle →
            exec .sweepStart s = .next { u with converter := { s.converter with sweep := some list } })
        ∧ (∀ ch rest, list = ch :: rest → s.converter.stage = .idle → u.timer.remaining < s.converter.reserveMs →
            exec .sweepStart s = .next { u with converter := { s.converter with sweep := none } })
        ∧ (∀ ch rest, list = ch :: rest → s.converter.stage = .idle → s.converter.reserveMs ≤ u.timer.remaining →
            exec .sweepStart s = .next { u with converter :=
              { s.converter.modChannel ch (fun x => { x with due := none }) with
                stage := .select ch, sweep := some rest, spot := s.converter.spot.erase ch, settle := 4000 } })
        ∧ (∀ x : Channel, x ∈ due ↔ (s.converter.channel x).due.isSome = true)
        ∧ due.Pairwise (fun x y => ∃ dx dy : Round,
            (s.converter.channel x).due = some dx ∧ (s.converter.channel y).due = some dy
              ∧ ((now - dy).toNat < (now - dx).toNat
                ∨ (dx = dy ∧ ((x.kind = .probe ∧ y.kind = .fuel) ∨ (x.kind = y.kind ∧ x.bay < y.bay))))))
    ∧ (∀ (s : State) (c v : Byte), s.ready →
        (16 ≤ c.toNat ∨ 2 ≤ v.toNat → exec (.spot c v) s = .next (s.answering (.spot c v) (refusal .badValue)))
          ∧ ∀ (b : Bay) (k : ChannelKind), c.toNat = b.val → channelKindOf v = some k →
              let ch : Channel := { bay := b, kind := k }
              (s.bays[b].state ≠ .serving → exec (.spot c v) s = .next (s.answering (.spot c v) (refusal .wrongState)))
                ∧ (s.bays[b].state = .serving → ch ∈ s.converter.spot →
                    exec (.spot c v) s = .next (s.answering (.spot c v) (okay [])))
                ∧ (s.bays[b].state = .serving → ch ∉ s.converter.spot → 8 ≤ s.converter.spot.length →
                    exec (.spot c v) s = .next (s.answering (.spot c v) (refusal .busy)))
                ∧ (s.bays[b].state = .serving → ch ∉ s.converter.spot → s.converter.spot.length < 8 →
                    exec (.spot c v) s = .next (({ s with converter :=
                      { s.converter with spot := s.converter.spot ++ [ch] } }).answering (.spot c v) (okay []))))

/-! ## Curves, fuel chain and probe chain (R87 to R107, R110 to R112) -/

/-- R88, R90: CURVE_WRITE's checks in their order and the clamped points it stores; CURVE_CLEAR empties a curve that
holds points and leaves an empty one as it is. -/
def Obligations.CurveCommandsStoreAndClear : Prop :=
  ∀ (s : State) (c k n : Byte) (pts : List (Word × Half)), s.ready → pts.length ≤ 41 →
    let clamped (kind : ChannelKind) : List (Nat × Int) := pts.map (fun p =>
      match kind with
      | .fuel => (min 30000 p.1.toNat, (min 20000 p.2.toNat : Nat))
      | .probe => (min 1000000 p.1.toNat, min 1500 (max (-400) p.2.toInt)))
    let answers (t : State) (a : Answer) : Prop :=
      exec (.curveWrite c k n pts) s = .next (t.answering (.curveWrite c k n pts) a)
    (pts.length ≠ n.toNat → answers s (refusal .badLength))
      ∧ (pts.length = n.toNat → (8 ≤ c.toNat ∨ 2 ≤ k.toNat ∨ n.toNat < 2 ∨ 9 < n.toNat) → answers s (refusal .badValue))
      ∧ (∀ (ix : Fin 8) (kind : ChannelKind), pts.length = n.toNat → c.toNat = ix.val → channelKindOf k = some kind →
          2 ≤ n.toNat → n.toNat ≤ 9 →
            (¬ (clamped kind).Pairwise (fun p q => p.1 < q.1) → answers s (refusal .badValue))
              ∧ ((clamped kind).Pairwise (fun p q => p.1 < q.1) →
                  let v : Curve := { kind := kind, points := clamped kind }
                  answers (storeCurve ix (some v) s) (okay (curveBytes ix (some v)))))
      ∧ (8 ≤ c.toNat → exec (.curveClear c) s = .next (s.answering (.curveClear c) (refusal .badValue)))
      ∧ ∀ ix : Fin 8, c.toNat = ix.val →
          (s.curves[ix] = none → exec (.curveClear c) s = .next (s.answering (.curveClear c) (okay [])))
            ∧ (∀ v, s.curves[ix] = some v →
                exec (.curveClear c) s = .next ((storeCurve ix none s).answering (.curveClear c) (okay [])))

/-- R89, R107: a change of curve `c` restarts every record bound to it, in any lifecycle state: filtered level and
baseline, or coil temperature, become absent; FUEL_LOW and FUEL_DROP end at the bays of PARKED ones. Nothing else of a
record changes, and no bay, converter or feeder state. The order in which the conditions end, by ascending bay and at
one bay FUEL_LOW before FUEL_DROP, is the model's choice (log 14). -/
def Obligations.CurveChangeRestartsBoundRecords : Prop :=
  ∀ (s : State) (c : Fin 8) (v : Option Curve),
    let t := storeCurve c v s
    t.curves = s.curves.set c.val v
      ∧ (∀ i : SlotIx, t.table[i] = s.table[i].map (fun r => { r with
          fuel := if r.settings.fuelCurve = some c then { r.fuel with filtered := none, baseline := none } else r.fuel
          probe := if r.settings.probeCurve = some c then { r.probe with coil := none } else r.probe }))
      ∧ (∀ b : Bay, s.fuelBound c b = false → t.conditions[b] = s.conditions[b])
      ∧ (∀ b : Bay, s.fuelBound c b = true →
          t.conditions[b] = { s.conditions[b] with fuelLow := false, fuelDrop := false }
            ∧ (s.conditions[b].fuelLow = true → (t.notices.slot (.bay .fuelLow b)).present = false)
            ∧ (s.conditions[b].fuelDrop = true → (t.notices.slot (.bay .fuelDrop b)).present = false))
      ∧ (∀ b : Bay, s.fuelBound c b = true ↔ ∃ r, s.recordAt b = some r ∧ r.settings.fuelCurve = some c)
      ∧ t.notices = (allBays.filter (s.fuelBound c)).foldl (fun n b =>
          let low := if s.conditions[b].fuelLow = true then n.cease s.timer.number (.bay .fuelLow b) else n
          if s.conditions[b].fuelDrop = true then low.cease s.timer.number (.bay .fuelDrop b) else low) s.notices
      ∧ t = { s with curves := t.curves, table := t.table, conditions := t.conditions, notices := t.notices }

/-- R92, R93: a resistance at or below the first point reads its value, at or above the last the last's, and inside a
segment the point's value plus the quotient rounded to nearest, halves away from zero. The value of a result is that of
the curve bound, and no value where the binding is NONE, the curve is empty or of the other kind (as R93 reads a
result). -/
def Obligations.CurveReadsInStraightLines : Prop :=
  (∀ (pts : List (Nat × Int)) (r : Nat), pts.Pairwise (fun p q => p.1 < q.1) →
      (∀ p rest, pts = p :: rest → r ≤ p.1 → readPoints r pts = some p.2)
        ∧ (∀ init p, pts = init ++ [p] → p.1 ≤ r → readPoints r pts = some p.2)
        ∧ (∀ init p q rest, pts = init ++ p :: q :: rest → p.1 ≤ r → r < q.1 →
            ∃ step : Int, readPoints r pts = some (p.2 + step)
              ∧ (let num := (q.2 - p.2) * ((r : Int) - p.1)
                 let den : Int := (q.1 : Int) - p.1
                 2 * (step * den - num).natAbs ≤ den.natAbs
                   ∧ (2 * (step * den - num).natAbs = den.natAbs → num.natAbs < (step * den).natAbs)))
        ∧ ∀ v, readPoints r pts = some v → (∃ p ∈ pts, p.2 ≤ v) ∧ ∃ p ∈ pts, v ≤ p.2)
    ∧ (∀ (s : State) (kind : ChannelKind) (r : Nat),
        s.readCurve kind none r = none
          ∧ ∀ c : Fin 8, (s.curves[c] = none → s.readCurve kind (some c) r = none)
              ∧ (∀ v, s.curves[c] = some v → v.kind ≠ kind → s.readCurve kind (some c) r = none)
              ∧ (∀ v, s.curves[c] = some v → v.kind = kind → s.readCurve kind (some c) r = readPoints r v.points))

/-- R95 to R103, R105, R106: what a FUEL result does to the record `r` at bay `b`: unsettled, settled with no value, and
settled with the value `l`, with the filter, the baseline, the two judgements and their reports in that order. -/
def Obligations.FuelResultFiltersAndJudges : Prop :=
  ∀ (s : State) (b : Bay) (i : SlotIx) (r : Record) (res : Nat), s.bays[b].ref = some i → s.table[i] = some r →
    let level := s.readCurve .fuel r.settings.fuelCurve res
    let isSettled : Prop := s.doors[b].figures.state = .shut ∧ s.doors[b].settle = 0
    let sampled : FuelFigures :=
      { r.fuel with lastResistance := some res, lastRound := some s.timer.number, lastLevel := level }
    let put (f : FuelFigures) : State := s.putSlot i (some { r with fuel := f })
    (¬ isSettled → fuelResult b res s = put sampled)
      ∧ (isSettled → level = none → fuelResult b res s
          = (ceaseIf s.conditions[b].senderFault .senderFault b (put { sampled with errorRun := 0 })).modCond b
              (fun c => { c with senderFault := false }))
      ∧ ∀ l : Int, isSettled → level = some l →
          let f : Int := match r.fuel.filtered with
            | none => l
            | some old => old + divHalfAway (l - old) (2 ^ s.smoothShift)
          let base : Int := match r.fuel.baseline with
            | none => f
            | some old => max old f
          let wasLow := s.conditions[b].fuelLow
          let low : Bool := decide (f < (r.settings.lowFuel : Int) + if wasLow then 20 else 0)
          let wasDrop := s.conditions[b].fuelDrop
          let drop : Bool := decide ((r.settings.dropThreshold : Int) ≤ base - f)
          let judged : State := (put { sampled with errorRun := 0, filtered := some f, baseline := some base }).modCond b
            (fun c => { c with senderFault := false, fuelLow := low, fuelDrop := drop })
          let first := ceaseIf s.conditions[b].senderFault .senderFault b judged
          let second := if low = wasLow then first
            else if low then presentAt .fuelLow b (some r.number) (some (.level f)) first
            else ceaseAt .fuelLow b first
          let third := if drop = wasDrop then second
            else if drop then presentAt .fuelDrop b (some r.number) (some (.level (base - f))) second
            else ceaseAt .fuelDrop b second
          fuelResult b res s = third

/-- R104, R105, R110 to R112, R118: what a FUEL error, a PROBE result and a PROBE error do to the record `r` at bay `b`.
-/
def Obligations.ErrorsAndProbeResults : Prop :=
  ∀ (s : State) (b : Bay) (i : SlotIx) (r : Record), s.bays[b].ref = some i → s.table[i] = some r →
    (∀ e : ErrorKind,
        let run := min 255 (r.fuel.errorRun + 1)
        let counted : State := s.putSlot i (some { r with fuel := { r.fuel with errorRun := run, lastError := e } })
        (run < 3 → fuelError b e s = counted)
          ∧ (3 ≤ run → s.conditions[b].senderFault = true → fuelError b e s = counted)
          ∧ (3 ≤ run → s.conditions[b].senderFault = false → fuelError b e s
              = presentAt .senderFault b (some r.number) (some (.error e))
                  (counted.modCond b (fun c => { c with senderFault := true }))))
      ∧ (∀ e : ErrorKind,
          let run := min 255 (r.probe.errorRun + 1)
          let counted : State := s.putSlot i (some { r with probe := { r.probe with errorRun := run, lastError := e } })
          (run < 2 → probeError b e s = counted)
            ∧ (2 ≤ run → s.conditions[b].probeFault = true → probeError b e s = counted)
            ∧ (2 ≤ run → s.conditions[b].probeFault = false → probeError b e s
                = presentAt .probeFault b (some r.number) (some (.error e))
                    (counted.modCond b (fun c => { c with probeFault := true }))))
      ∧ ∀ res : Nat,
          let coil := s.readCurve .probe r.settings.probeCurve res
          let written : Record :=
            { r with probe := { r.probe with lastResistance := some res, errorRun := 0, coil := coil } }
          let cleared : State := (ceaseIf s.conditions[b].probeFault .probeFault b (s.putSlot i (some written))).modCond b
            (fun c => { c with probeFault := false })
          ((∀ g t, r.defrost.state = .heating g → coil = some t → t < r.settings.termination) →
              probeResult b res s = cleared)
            ∧ ∀ g t, r.defrost.state = .heating g → coil = some t → r.settings.termination ≤ t →
                probeResult b res s = endHeating b written cleared

/-! ## Feeder arbiter (R126 to R142) -/

/-- R27, R28, R130 to R133, R142: the check point of the round in progress, where no point before it has still to come,
comes with round remaining at ROUND_MS less CHECK_AT: the verdict against the criterion standing then; a CLEAR verdict
counts toward a restore; a SAG verdict sheds the newest grant, whose record returns to WAITING, before FEEDER_SAG is
reported. The level is in whole millivolts (log 19), and FSENSE stands at it till another is brought (log 4). -/
def Obligations.CheckPointShedsAndRestores : Prop :=
  ∀ (s : State) (fsense : Nat), s.resetting = none → s.timer.points.check = .outstanding →
    (∀ q, s.timer.points.get q = .outstanding → s.timer.inForce.checkAt ≤ s.timer.inForce.pointAt q) →
    let u : State := { s with
      outside := { s.outside with fsense := fsense }
      timer := { s.timer with
        remaining := s.timer.inForce.roundMs - s.timer.inForce.checkAt
        points := { s.timer.points with check := .taken } } }
    let sag : Prop := s.feeder.sagLevel ≠ 0 ∧ fsense < 790 + 10 * s.feeder.sagLevel
    let f := s.feeder
    (¬ sag → exec (.checkPoint fsense) s = .next { u with
        feeder := { f with
          verdict := .clear, comparatorOn := false
          shed := if f.shed ≠ 0 ∧ f.restoreRounds ≤ f.restoreCounter + 1 then f.shed - 1 else f.shed
          restoreCounter := if f.shed = 0 then f.restoreCounter
            else if f.restoreRounds ≤ f.restoreCounter + 1 then 0 else f.restoreCounter + 1 }
        notices := if f.verdict = .sag then s.notices.cease s.timer.number .feederSag else s.notices })
      ∧ (sag → f.grants = [] → exec (.checkPoint fsense) s = .next { u with
          feeder := { f with verdict := .sag, comparatorOn := false, restoreCounter := 0 }
          notices := if f.verdict = .clear then
              s.notices.present s.timer.number .feederSag none (some (.units f.shed)) else s.notices })
      ∧ ∀ (older : List Grant) (g : Grant) (i : SlotIx) (r : Record) (c : DefrostClass), sag →
          f.grants = older ++ [g] → s.bays[g.bay].ref = some i → s.table[i] = some r → r.defrost.state = .heating c →
            exec (.checkPoint fsense) s = .next
              { u.putSlot i (some { r with defrost := { r.defrost with state := .waiting c } }) with
                heat := s.heat.set g.bay.val false
                feeder := { f with
                  grants := older, shed := min f.units (f.shed + g.load), restoreCounter := 0, verdict := .sag,
                  comparatorOn := false }
                notices := if f.verdict = .clear then s.notices.present s.timer.number .feederSag none
                    (some (.units (min f.units (f.shed + g.load)))) else s.notices }

/-- R27, R28, R134 to R138: the grant point of the round in progress, where no point before it has still to come, comes
with round remaining at ROUND_MS less GRANT_AT, and walks the requests URGENT before NORMAL, higher rank first; an
ineligible one is skipped, one that fits the free units is granted and rotates the ranks, and the first that does not
fit stops the walk. -/
def Obligations.GrantWalkServesByClassAndRank : Prop :=
  ∀ s : State, s.resetting = none →
    (s.timer.points.grant = .outstanding →
        (∀ q, s.timer.points.get q = .outstanding → s.timer.inForce.grantAt ≤ s.timer.inForce.pointAt q) →
        exec .grantPoint s = .next (grantWalk (requestOrder s) { s with timer := { s.timer with
          remaining := s.timer.inForce.roundMs - s.timer.inForce.grantAt
          points := { s.timer.points with grant := .taken } } }))
      ∧ (∀ b : Bay, b ∈ requestOrder s ↔ ∃ r c, s.recordAt b = some r ∧ r.defrost.state = .waiting c)
      ∧ (RankInv s → (requestOrder s).Pairwise (fun x y =>
          (s.requestAt x = some .urgent ∧ s.requestAt y = some .normal)
            ∨ (s.requestAt x = s.requestAt y ∧ s.feeder.rank[y] < s.feeder.rank[x])))
      ∧ grantWalk [] s = s
      ∧ ∀ (b : Bay) (rest : List Bay) (i : SlotIx) (r : Record) (c : DefrostClass),
          s.bays[b].ref = some i → s.table[i] = some r → r.defrost.state = .waiting c →
            let fits : Prop :=
              r.settings.heaterLoad ≤ s.feeder.units - s.feeder.shed - (s.feeder.grants.map (·.load)).sum
            let served : Prop :=
              s.bays[b].state = .serving ∧ s.bays[b].powerGood = true ∧ s.doors[b].figures.state = .shut
            (¬ served → grantWalk (b :: rest) s = grantWalk rest s)
              ∧ (served → ¬ fits → grantWalk (b :: rest) s = s)
              ∧ (served → fits → grantWalk (b :: rest) s = grantWalk rest
                  { s.putSlot i (some { r with defrost := { r.defrost with state := .heating c, heatRounds := 0 } }) with
                    heat := s.heat.set b.val true
                    feeder := { s.feeder with
                      grants := s.feeder.grants
                        ++ [{ bay := b, load := r.settings.heaterLoad, round := s.timer.number }]
                      rank := Vector.ofFn (fun x : Fin 16 => if x = b then 0
                        else if s.feeder.rank[x] < s.feeder.rank[b] then s.feeder.rank[x] + 1
                        else s.feeder.rank[x]) } })

/-- R129, R141: SET FEEDER_UNITS stores the capacity, lowers the shed units to it, sheds the newest grants that no longer
fit without adding to the shed units, and returns their records to WAITING; the answer echoes what stands then. -/
def Obligations.FeederUnitsShedWhatNoLongerFits : Prop :=
  ∀ (s : State) (v : Word), s.ready →
    let units := min 8 v.toNat
    let shed := min s.feeder.shed units
    ∃ kept dropped : List Grant, s.feeder.grants = kept ++ dropped
      ∧ (kept.map (·.load)).sum ≤ units - shed
      ∧ (∀ p q : List Grant, s.feeder.grants = p ++ q → (p.map (·.load)).sum ≤ units - shed →
          p.length ≤ kept.length)
      ∧ exec (.setFeederUnits v) s = .next (((dropped.reverse.map (·.bay)).foldl (fun t b => heatingToWaiting b t)
          { s with feeder := { s.feeder with
              units := units, shed := shed, grants := kept,
              restoreCounter := if shed = 0 then 0 else s.feeder.restoreCounter } }).answering (.set 10 v)
          (okay ([10, 3] ++ wordNat units ++ wordNat shed ++ wordNat (kept.map (·.load)).sum)))

/-! ## Settings (R29, R30, R44, R77, R83, R99, R130, R133, R150, R151, R173) -/

/-- R29, R30: SET of ROUND_MS clamps the interval and lowers each stored offset not below it; SET of an offset stores at
most the stored ROUND_MS less 1. The values in force and round remaining stand. -/
def Obligations.RoundSettingsAreStoredForTheNextRound : Prop :=
  ∀ (s : State) (v : Word), s.ready →
    let x := s.timer.stored
    let stores (c : Instr) (code : Byte) (y : RoundSettings) (echo : List Nat) : Prop :=
      exec c s = .next (({ s with timer := { s.timer with stored := y } }).answering (.set code v)
        (okay (code :: BitVec.ofNat 8 echo.length :: echo.flatMap wordNat)))
    let ms := min 2000 (max 500 v.toNat)
    let y : RoundSettings :=
      { roundMs := ms
        checkAt := if x.checkAt < ms then x.checkAt else ms - 1
        grantAt := if x.grantAt < ms then x.grantAt else ms - 1
        sweepAt := if x.sweepAt < ms then x.sweepAt else ms - 1 }
    let at' := min v.toNat (x.roundMs - 1)
    stores (.setRoundMs v) 1 y [ms, y.checkAt, y.grantAt, y.sweepAt]
      ∧ stores (.setCheckAt v) 2 { x with checkAt := at' } [at']
      ∧ stores (.setGrantAt v) 3 { x with grantAt := at' } [at']
      ∧ stores (.setSweepAt v) 4 { x with sweepAt := at' } [at']

/-- R44, R77, R83, R99, R130, R133, R150, R151, R173: SET of each other setting stores the clamped value, acts at once
where its rule says so (countdowns, settle counts) and echoes the value stored; a GUARD code above 2 and RESET_CAUSE are
refused BAD_VALUE. -/
def Obligations.SettingsAreClampedStoredAndEchoed : Prop :=
  ∀ (s : State) (v : Word), s.ready →
    let sets (c : Instr) (code : Byte) (t : State) (n : Nat) : Prop :=
      exec c s = .next (t.answering (.set code v) (okay ([code, 1] ++ wordNat n)))
    let reserve := min 200 (max 10 v.toNat)
    let period := min 600 (max 1 v.toNat)
    let settle := min 600 v.toNat
    let good := if 700 < v.toNat then 700 else (v.toNat + 50) / 100 * 100
    sets (.setReserveMs v) 5 { s with converter := { s.converter with reserveMs := reserve } } reserve
      ∧ sets (.setFuelEvery v) 6 { s with converter := { s.converter with
          fuelEvery := period
          channels := s.converter.channels.map (fun c =>
            { c with fuel := { c.fuel with countdown := min c.fuel.countdown period } }) } } period
      ∧ sets (.setProbeEvery v) 7 { s with converter := { s.converter with
          probeEvery := period
          channels := s.converter.channels.map (fun c =>
            { c with probe := { c.probe with countdown := min c.probe.countdown period } }) } } period
      ∧ sets (.setSettleRounds v) 8 { s with
          settleRounds := settle
          doors := s.doors.map (fun d => { d with settle := min d.settle settle }) } settle
      ∧ sets (.setSmoothShift v) 9 { s with smoothShift := min 4 v.toNat } (min 4 v.toNat)
      ∧ sets (.setSagLevel v) 11 { s with feeder := { s.feeder with sagLevel := min 15 v.toNat } } (min 15 v.toNat)
      ∧ sets (.setRestoreRounds v) 12 { s with feeder := { s.feeder with restoreRounds := period } } period
      ∧ sets (.setPowerGoodMs v) 13 { s with powerGoodMs := good } good
      ∧ (v.toNat = 0 → sets (.setGuard v) 14 { s with guard := .off } 0)
      ∧ (v.toNat = 1 → sets (.setGuard v) 14 { s with guard := .opening } 1)
      ∧ (v.toNat = 2 → sets (.setGuard v) 14 { s with guard := .any } 2)
      ∧ (2 < v.toNat → exec (.setGuard v) s = .next (s.answering (.set 14 v) (refusal .badValue)))
      ∧ exec (.setResetCause v) s = .next (s.answering (.set 15 v) (refusal .badValue))

/-! ## Notices (R154 to R166) -/

/-- R159 to R161: what a raise, a present and a cease report do to the notice unit, by the route's mask and the slot's
delivery state. -/
def Obligations.ReportsChangeTheirSlot : Prop :=
  ∀ (n : Notices) (now : Round) (k : Key) (trailer : Option TrailerNo) (value : Option NoticeValue),
    let x := n.slot k
    let masked : Prop := (n.route k.kind).masked = true
    let stored : Notices := n.putSlot k { x with trailer := trailer, value := value }
    let held : Notices := n.putSlot k { x with present := true, trailer := trailer, value := value }
    let gone : Notices := n.putSlot k { x with present := false }
    let idle : Notices := n.putSlot k { x with present := false, delivery := .idle }
    (masked → n.raise now k trailer value = n)
      ∧ (¬ masked → x.delivery = .idle → n.raise now k trailer value = stored.becomeRaised now k (some 1))
      ∧ (∀ info c q, ¬ masked → x.delivery = .raised info (some c) q → n.raise now k trailer value
          = n.putSlot k { x with
              delivery := .raised info (some (min 255 (c + 1))) q, trailer := trailer, value := value })
      ∧ (x.delivery = .idle → ¬ masked → n.present now k trailer value = held.becomeRaised now k none)
      ∧ (x.delivery = .idle → masked → n.present now k trailer value = held)
      ∧ (∀ info, x.delivery = .taken info → n.present now k trailer value = held)
      ∧ (x.delivery = .idle → n.cease now k = gone)
      ∧ (∀ info, x.delivery = .taken info → n.cease now k = gone)
      ∧ (∀ info, x.delivery = .acked info → n.cease now k = idle)
      ∧ (∀ info reps, x.delivery = .raised info reps false → n.cease now k = idle)
      ∧ ∀ info reps, x.delivery = .raised info reps true →
          n.cease now k = (idle.setQueue (n.queue.erase k)).refill now

/-- R157, R158, R166: a slot that becomes RAISED takes the current round and its route's class; its key enters behind
the last key of its class, or waits while the queue is full. A place come free takes the waiting key of class HIGH
first, then the oldest raise round, then the lowest kind and position. ATTN follows the queue. -/
def Obligations.KeysEnterBehindTheirClass : Prop :=
  ∀ (n : Notices) (now : Round) (k : Key) (reps : Option Nat),
    let info : RaiseInfo := { round := now, cls := (n.route k.kind).cls }
    let raised (q : Bool) : Notices := n.putSlot k { n.slot k with delivery := .raised info reps q }
    (24 ≤ n.queue.length → n.becomeRaised now k reps = raised false)
      ∧ (n.queue.length < 24 → k ∉ n.queue → (∀ j ∈ n.queue.dropWhile n.isHigh, n.isHigh j = false) →
          n.becomeRaised now k reps = { raised true with
            attn := true
            queue := if info.cls = .high then n.queue.filter n.isHigh ++ k :: n.queue.filter (fun j => !n.isHigh j)
              else n.queue ++ [k] })
      ∧ ((∀ j, n.waitingInfo j = none) → n.refill now = n)
      ∧ ∀ j first, n.waitingInfo j = some first →
          (∀ j' other, j' ≠ j → n.waitingInfo j' = some other →
            (first.cls = .high ∧ other.cls = .low)
              ∨ (first.cls = other.cls ∧ ((now - other.round).toNat < (now - first.round).toNat
                  ∨ (first.round = other.round ∧ j.index < j'.index)))) →
            ∃ c, (n.slot j).delivery = .raised first c false
              ∧ n.refill now = (n.putSlot j { n.slot j with delivery := .raised first c true }).enter j

/-- R162, Table 52: TAKE answers EMPTY on an empty queue and changes nothing; else the head leaves, its slot becomes
TAKEN or, for an event, IDLE, the place is filled from the waiting keys, and the answer carries the notice. -/
def Obligations.TakeDeliversTheHead : Prop :=
  ∀ s : State, s.ready →
    (s.notices.queue = [] → exec .take s = .next (s.answering .take (refusal .empty)))
      ∧ ∀ (k : Key) (rest : List Key) (info : RaiseInfo) (reps : Option Nat) (q : Bool),
          s.notices.queue = k :: rest → (s.notices.slot k).delivery = .raised info reps q →
            let x := s.notices.slot k
            let gone : Notices := s.notices.putSlot k
              { x with delivery := if k.kind.isCondition then .taken info else .idle }
            let left : Notices := (gone.setQueue rest).refill s.timer.number
            exec .take s = .next (({ s with notices := left }).answering .take (okay
              ([BitVec.ofNat 8 (k.kind.index.val + 1), BitVec.ofNat 8 k.position, if info.cls = NoticeClass.high then 1 else 0,
                  (if x.trailer.isSome then 1 else 0) + (if x.value.isSome then 2 else 0)]
                ++ (x.trailer.map wordBytes).getD [0, 0, 0, 0] ++ (x.value.map NoticeValue.bytes).getD [0, 0, 0, 0]
                ++ halfBytes info.round
                ++ [BitVec.ofNat 8 (reps.getD 1), BitVec.ofNat 8 left.queue.length])))

/-- R163: ACK's three checks in their order; with all passed the slot becomes ACKED if its present flag is true and IDLE
if it is false, the answer reports the new delivery state, and nothing else changes, the delivery queue included. An
ACKED slot stays ACKED while the condition lasts and becomes IDLE when it ceases. -/
def Obligations.AckSettlesATakenCondition : Prop :=
  ∀ (s : State) (c p : Byte), s.ready →
    let wrong : Prop := exec (.ack c p) s = .next (s.answering (.ack c p) (refusal .wrongState))
    (∀ k : Key, k.kind.index.val + 1 = c.toNat → k.position = p.toNat →
        (k.kind.isCondition = false → wrong)
          ∧ (k.kind.isCondition = true → (∀ info, (s.notices.slot k).delivery ≠ .taken info) → wrong)
          ∧ ∀ info, k.kind.isCondition = true → (s.notices.slot k).delivery = .taken info →
              let x := s.notices.slot k
              let settled : Slot := { x with delivery := if x.present then .acked info else .idle }
              exec (.ack c p) s = .next (({ s with notices := s.notices.putSlot k settled }).answering (.ack c p)
                (okay [if x.present then 3 else 0])))
      ∧ ((∀ k : Key, k.kind.index.val + 1 = c.toNat → k.position ≠ p.toNat) →
          exec (.ack c p) s = .next (s.answering (.ack c p) (refusal .badValue)))
      ∧ ∀ (n : Notices) (now : Round) (k : Key) (info : RaiseInfo), (n.slot k).delivery = .acked info →
          n.cease now k = n.putSlot k { n.slot k with present := false, delivery := .idle }
            ∧ ∀ trailer value, ((n.present now k trailer value).slot k).delivery = .acked info

/-- R164, R165: ROUTE_SET stores class and mask; a masking withdraws every RAISED slot of a condition kind and an
unmasking raises every IDLE slot that is present, in ascending position order; the answer echoes the route. -/
def Obligations.RouteSetStoresAndActs : Prop :=
  ∀ (s : State) (c m l : Byte), s.ready →
    (c = 0 ∨ 16 < c.toNat ∨ 1 < m.toNat ∨ 1 < l.toNat →
        exec (.routeSet c m l) s = .next (s.answering (.routeSet c m l) (refusal .badValue)))
      ∧ ∀ k : Kind, k.index.val + 1 = c.toNat → m.toNat ≤ 1 → l.toNat ≤ 1 →
          let now := s.timer.number
          let routed : Notices := s.notices.putRoute k
            { masked := decide (m = 1), cls := if l = 1 then .high else .low }
          let was : Bool := (s.notices.route k).masked
          let answers (n : Notices) : Prop :=
            exec (.routeSet c m l) s
              = .next (({ s with notices := n }).answering (.routeSet c m l) (okay [c, m, l]))
          (was = decide (m = 1) ∨ k.isCondition = false → answers routed)
            ∧ (was = false → m = 1 → k.isCondition = true →
                answers (k.keys.foldl (fun n j =>
                  match (n.slot j).delivery with
                  | .raised _ _ true =>
                    ((n.putSlot j { n.slot j with delivery := .idle }).setQueue (n.queue.erase j)).refill now
                  | .raised _ _ false => n.putSlot j { n.slot j with delivery := .idle }
                  | _ => n) routed))
            ∧ (was = true → m = 0 → k.isCondition = true →
                answers (k.keys.foldl (fun n j =>
                  if (n.slot j).delivery = .idle ∧ (n.slot j).present = true then n.becomeRaised now j none else n)
                    routed))

/-! ## Round start (R26, R33, R75) -/

/-- R26, R27, R28, R75, R82, R130: a round start, with every point of the ending round come, advances the round number,
puts the stored settings in force, loads round remaining, closes the sweep and powers the comparator, and the new
round's points have still to come; then comes each bay's work, one bay after another (the order is the model's operand,
log 10, log 11). A SERVING bay's channels count down, and at 0 are reloaded and marked due. A point comes with round
remaining at ROUND_MS less its offset. The model's choices: points still to come that lie before a point or a round
start are taken first, of equal offsets in a fixed order; one of offset 0 may come at the instant of the round start
before it is taken (log 26), and a check point that does leaves the comparator off (log 27). -/
def Obligations.RoundStartOpensTheRound : Prop :=
  ∀ (order : List Bay) (s : State), s.resetting = none →
    let ahead (p : Point) : Bool := s.timer.points.get p = .takenAhead
    let fresh (p : Point) : PointState := if ahead p then .taken else .outstanding
    let rank (p : Point) : Nat := match p with | .check => 0 | .grant => 1 | .sweep => 2
    let waits (p : Point) : Prop := s.timer.points.get p = .outstanding
    let x := s.timer.inForce
    let first (q : Point) : Prop := waits q
      ∧ ∀ p, waits p → x.pointAt q < x.pointAt p ∨ (x.pointAt q = x.pointAt p ∧ rank q ≤ rank p)
    ((∀ p, ¬ waits p) →
        exec (.roundStart order) s = .next ((completeOrder order).foldl (fun t b => bayRound b t) { s with
          timer := { s.timer with
            number := s.timer.number + 1, inForce := s.timer.stored, remaining := s.timer.stored.roundMs
            points := { check := fresh .check, grant := fresh .grant, sweep := fresh .sweep } }
          converter := { s.converter with sweep := none }
          feeder := { s.feeder with comparatorOn := !ahead .check } }))
      ∧ (∀ q, first q → x.pointAt q < x.roundMs → ∀ t, exec (q.row s.outside.fsense) s = .next t →
          exec (.roundStart order) s = exec (.roundStart order) t)
      ∧ (∀ p q f, first q → waits p → x.pointAt q < x.pointAt p → ∀ t, exec (q.row s.outside.fsense) s = .next t →
          exec (p.row f) s = exec (p.row f) t)
      ∧ (∀ p f, waits p → (∀ q, waits q → x.pointAt p ≤ x.pointAt q) →
          exec (p.row f) s = .next (pointWork p { s with
            outside := { s.outside with fsense := if p = .check then f else s.outside.fsense }
            timer := { s.timer with
              remaining := x.roundMs - x.pointAt p, points := s.timer.points.put p .taken } }))
      ∧ (∀ p f, s.timer.points.get p = .taken → s.timer.stored.pointAt p = 0 → (∀ q, ¬ waits q) →
          exec (p.row f) s = .next (pointWork p { s with
            outside := { s.outside with fsense := if p = .check then f else s.outside.fsense }
            timer := { s.timer with remaining := 0, points := s.timer.points.put p .takenAhead } }))
      ∧ (order.Nodup → (completeOrder order).Perm allBays)
      ∧ ∀ b : Bay, bayRound b s = doorRound b (retry b (defrostRound b (channelRound b s)))
          ∧ (s.bays[b].state ≠ .serving → channelRound b s = s)
          ∧ (s.bays[b].state = .serving →
              let down (period : Nat) (x : ChannelCtl) : ChannelCtl :=
                if x.countdown = 1 then { countdown := period, due := some (x.due.getD s.timer.number) }
                else { x with countdown := x.countdown - 1 }
              channelRound b s = { s with converter := s.converter.modBayChannels b (fun x =>
                { fuel := down s.converter.fuelEvery x.fuel, probe := down s.converter.probeEvery x.probe }) })

/-- R75, R114, R115, R119, R121 (log 8): the rows that are parts of a round start do, at one bay whose count stands one
step from its end, what the round start does there. -/
def Obligations.RoundStartPartsActAtTheirCount : Prop :=
  ∀ (s : State) (b : Bay), s.resetting = none →
    (∀ k : ChannelKind, s.bays[b].state = .serving → (s.converter.channel { bay := b, kind := k }).countdown = 1 →
        let reloaded (x : ChannelCtl) : ChannelCtl :=
          { countdown := s.converter.period k, due := some (x.due.getD s.timer.number) }
        exec (.channelCountdownExpiry b k) s
          = .next { s with converter := s.converter.modChannel { bay := b, kind := k } reloaded })
      ∧ ∀ r : Record, s.recordAt b = some r →
          let clock : Prop := r.settings.clockMode = .wall ∨ s.doors[b].run = .running
          (r.defrost.state = .idle → clock → r.defrost.intervalCount = 1 →
              exec (.intervalExpiry b) s = .next (defrostRound b s))
            ∧ (∀ c, r.defrost.state = .waiting c → clock → r.defrost.intervalCount = 1 →
                exec (.expiryInWaiting b) s = .next (defrostRound b s))
            ∧ (∀ g, r.defrost.state = .heating g → r.settings.maxHeat ≤ r.defrost.heatRounds + 1 →
                exec (.endByMaximum b) s = .next (defrostRound b s))
            ∧ (r.defrost.state = .dripping → r.defrost.dripCount = 1 →
                exec (.dripEnd b) s = .next (defrostRound b s))

/-! ## Invariants that every step keeps -/

/-- R3 to R5, R25, R27 to R30, R35, R44, R66, R68 to R70, R73, R76 to R78, R80, R83, R87, R99, R100, R107, R126, R129,
R130, R133, R143, R151: every step keeps the settings of the part and of every record in their ranges; every offset,
stored and in force, below its interval, no point still to come passed by, and the next line sample tick at a multiple
of 10 ms and not passed by; every curve its 2 to 9 ascending points in range; the figures of every record and bay in the
ranges of Tables 6 to 8, 18, 41 and 45, and a record's baseline at least its filtered level; and the converter's
counters, countdowns and lists as Table 25 has them, with marks, lists and a conversion only for channels of SERVING
bays. R55, R58 to R60, R62, R63, Tables 21 and 22: and the reader's values in their ranges, with the attempt at one of
three, the read within its phase, past no sample instant and no other event still to come, and the slot number that of
the slot the read stands in. The field `ahead`, by which rows bring the read ahead of the time base, is the model's (log
23). -/
def Obligations.StepKeepsTheRangesOfTheTables : Prop :=
  ∀ s t : State, TimerInv s → SettingsInv s → CurvesInv s → FiguresInv s → FuelInv s → ReaderInv s → step s = .next t →
    TimerInv t ∧ SettingsInv t ∧ CurvesInv t ∧ FiguresInv t ∧ FuelInv t ∧ ReaderInv t
      ∧ (RegistryInv s → HeatInv s → ConverterInv s → ConverterInv t)

/-- R128, R138: every step keeps the ranks the numbers 0 to 15, each held by exactly one bay, and granted loads and shed
units together within FEEDER_UNITS. -/
def Obligations.StepKeepsTheFeederArbiter : Prop :=
  ∀ s t : State, RankInv s → BudgetInv s → step s = .next t → RankInv t ∧ BudgetInv t

/-- R42, R43: every step keeps power on exactly while SERVING, power good only there, and a wait only while SERVING
without power good. -/
def Obligations.StepKeepsPowerWithService : Prop :=
  ∀ s t : State, PowerInv s → step s = .next t → PowerInv t

/-- R155, R157, R158, R166: every step keeps the delivery queue within 24 keys, none twice, HIGH before LOW, each of a
RAISED slot; every slot in a state its kind allows, waiting only while the queue is full; and ATTN asserted exactly
while the queue holds a key. -/
def Obligations.StepKeepsTheDeliveryQueue : Prop :=
  ∀ s t : State, AttnInv s → NoticesInv s → step s = .next t → AttnInv t ∧ NoticesInv t

/-- R1, R7, R36, R50, R55, R56: every step keeps trailer numbers unique and not 0, references and PARKED records in
agreement, bay states coherent with references and connections, and the identify queue holding exactly the IDENTIFYING
bays, each once. -/
def Obligations.StepKeepsTheRegistry : Prop :=
  ∀ s t : State, RegistryInv s → step s = .next t → RegistryInv t

/-- R109, R120, R127: every step keeps a heater permit on exactly while the bay's record is HEATING, the grant list
holding exactly those bays, each once, and every one of them SERVING. -/
def Obligations.StepKeepsHeatWithGrants : Prop :=
  ∀ s t : State, RegistryInv s → HeatInv s → step s = .next t → HeatInv t

/-- R14, R47, R94, R112, R131, R149, R154: every step keeps each condition slot's present flag in agreement with its
source, and the conditions of a record only at a bay that refers to one. -/
def Obligations.StepKeepsPresenceWithSources : Prop :=
  ∀ s t : State, RegistryInv s → PresenceInv s → step s = .next t → PresenceInv t

/-- R143, R152: every step keeps an unwatched bay at its unwatched values, and the record parked at a bay holding the
bay's door figures. -/
def Obligations.StepKeepsTheDoorCopy : Prop :=
  ∀ s t : State, RegistryInv s → DoorInv s → step s = .next t → DoorInv t

end Statements
end

