-- ==== Sys2Proof/Laws/State.lean ====
section
/-! SUPPORT. One lemma for each field of the state and each operation that changes one entry of it, true by rfl: no proof
unfolds a record update. -/

namespace Sys2Proof.Machine

@[simp] theorem State.modBay_timer (b : Bay) (f : BayCtl → BayCtl) (s : State) : (s.modBay b f).timer = s.timer := rfl
@[simp] theorem State.modBay_bays (b : Bay) (f : BayCtl → BayCtl) (s : State) : (s.modBay b f).bays = s.bays.set b.val (f s.bays[b]) := rfl
@[simp] theorem State.modBay_doors (b : Bay) (f : BayCtl → BayCtl) (s : State) : (s.modBay b f).doors = s.doors := rfl
@[simp] theorem State.modBay_reader (b : Bay) (f : BayCtl → BayCtl) (s : State) : (s.modBay b f).reader = s.reader := rfl
@[simp] theorem State.modBay_converter (b : Bay) (f : BayCtl → BayCtl) (s : State) : (s.modBay b f).converter = s.converter := rfl
@[simp] theorem State.modBay_table (b : Bay) (f : BayCtl → BayCtl) (s : State) : (s.modBay b f).table = s.table := rfl
@[simp] theorem State.modBay_curves (b : Bay) (f : BayCtl → BayCtl) (s : State) : (s.modBay b f).curves = s.curves := rfl
@[simp] theorem State.modBay_conditions (b : Bay) (f : BayCtl → BayCtl) (s : State) : (s.modBay b f).conditions = s.conditions := rfl
@[simp] theorem State.modBay_heat (b : Bay) (f : BayCtl → BayCtl) (s : State) : (s.modBay b f).heat = s.heat := rfl
@[simp] theorem State.modBay_feeder (b : Bay) (f : BayCtl → BayCtl) (s : State) : (s.modBay b f).feeder = s.feeder := rfl
@[simp] theorem State.modBay_notices (b : Bay) (f : BayCtl → BayCtl) (s : State) : (s.modBay b f).notices = s.notices := rfl
@[simp] theorem State.modBay_link (b : Bay) (f : BayCtl → BayCtl) (s : State) : (s.modBay b f).link = s.link := rfl
@[simp] theorem State.modBay_powerGoodMs (b : Bay) (f : BayCtl → BayCtl) (s : State) : (s.modBay b f).powerGoodMs = s.powerGoodMs := rfl
@[simp] theorem State.modBay_guard (b : Bay) (f : BayCtl → BayCtl) (s : State) : (s.modBay b f).guard = s.guard := rfl
@[simp] theorem State.modBay_settleRounds (b : Bay) (f : BayCtl → BayCtl) (s : State) : (s.modBay b f).settleRounds = s.settleRounds := rfl
@[simp] theorem State.modBay_smoothShift (b : Bay) (f : BayCtl → BayCtl) (s : State) : (s.modBay b f).smoothShift = s.smoothShift := rfl
@[simp] theorem State.modBay_outside (b : Bay) (f : BayCtl → BayCtl) (s : State) : (s.modBay b f).outside = s.outside := rfl
@[simp] theorem State.modBay_resetting (b : Bay) (f : BayCtl → BayCtl) (s : State) : (s.modBay b f).resetting = s.resetting := rfl
@[simp] theorem State.modBay_resetCause (b : Bay) (f : BayCtl → BayCtl) (s : State) : (s.modBay b f).resetCause = s.resetCause := rfl
@[simp] theorem State.modBay_pending (b : Bay) (f : BayCtl → BayCtl) (s : State) : (s.modBay b f).pending = s.pending := rfl

@[simp] theorem State.modDoor_timer (b : Bay) (f : DoorWatch → DoorWatch) (s : State) : (s.modDoor b f).timer = s.timer := rfl
@[simp] theorem State.modDoor_bays (b : Bay) (f : DoorWatch → DoorWatch) (s : State) : (s.modDoor b f).bays = s.bays := rfl
@[simp] theorem State.modDoor_doors (b : Bay) (f : DoorWatch → DoorWatch) (s : State) : (s.modDoor b f).doors = s.doors.set b.val (f s.doors[b]) := rfl
@[simp] theorem State.modDoor_reader (b : Bay) (f : DoorWatch → DoorWatch) (s : State) : (s.modDoor b f).reader = s.reader := rfl
@[simp] theorem State.modDoor_converter (b : Bay) (f : DoorWatch → DoorWatch) (s : State) : (s.modDoor b f).converter = s.converter := rfl
@[simp] theorem State.modDoor_table (b : Bay) (f : DoorWatch → DoorWatch) (s : State) : (s.modDoor b f).table = s.table := rfl
@[simp] theorem State.modDoor_curves (b : Bay) (f : DoorWatch → DoorWatch) (s : State) : (s.modDoor b f).curves = s.curves := rfl
@[simp] theorem State.modDoor_conditions (b : Bay) (f : DoorWatch → DoorWatch) (s : State) : (s.modDoor b f).conditions = s.conditions := rfl
@[simp] theorem State.modDoor_heat (b : Bay) (f : DoorWatch → DoorWatch) (s : State) : (s.modDoor b f).heat = s.heat := rfl
@[simp] theorem State.modDoor_feeder (b : Bay) (f : DoorWatch → DoorWatch) (s : State) : (s.modDoor b f).feeder = s.feeder := rfl
@[simp] theorem State.modDoor_notices (b : Bay) (f : DoorWatch → DoorWatch) (s : State) : (s.modDoor b f).notices = s.notices := rfl
@[simp] theorem State.modDoor_link (b : Bay) (f : DoorWatch → DoorWatch) (s : State) : (s.modDoor b f).link = s.link := rfl
@[simp] theorem State.modDoor_powerGoodMs (b : Bay) (f : DoorWatch → DoorWatch) (s : State) : (s.modDoor b f).powerGoodMs = s.powerGoodMs := rfl
@[simp] theorem State.modDoor_guard (b : Bay) (f : DoorWatch → DoorWatch) (s : State) : (s.modDoor b f).guard = s.guard := rfl
@[simp] theorem State.modDoor_settleRounds (b : Bay) (f : DoorWatch → DoorWatch) (s : State) : (s.modDoor b f).settleRounds = s.settleRounds := rfl
@[simp] theorem State.modDoor_smoothShift (b : Bay) (f : DoorWatch → DoorWatch) (s : State) : (s.modDoor b f).smoothShift = s.smoothShift := rfl
@[simp] theorem State.modDoor_outside (b : Bay) (f : DoorWatch → DoorWatch) (s : State) : (s.modDoor b f).outside = s.outside := rfl
@[simp] theorem State.modDoor_resetting (b : Bay) (f : DoorWatch → DoorWatch) (s : State) : (s.modDoor b f).resetting = s.resetting := rfl
@[simp] theorem State.modDoor_resetCause (b : Bay) (f : DoorWatch → DoorWatch) (s : State) : (s.modDoor b f).resetCause = s.resetCause := rfl
@[simp] theorem State.modDoor_pending (b : Bay) (f : DoorWatch → DoorWatch) (s : State) : (s.modDoor b f).pending = s.pending := rfl

@[simp] theorem State.modCond_timer (b : Bay) (f : Conditions → Conditions) (s : State) : (s.modCond b f).timer = s.timer := rfl
@[simp] theorem State.modCond_bays (b : Bay) (f : Conditions → Conditions) (s : State) : (s.modCond b f).bays = s.bays := rfl
@[simp] theorem State.modCond_doors (b : Bay) (f : Conditions → Conditions) (s : State) : (s.modCond b f).doors = s.doors := rfl
@[simp] theorem State.modCond_reader (b : Bay) (f : Conditions → Conditions) (s : State) : (s.modCond b f).reader = s.reader := rfl
@[simp] theorem State.modCond_converter (b : Bay) (f : Conditions → Conditions) (s : State) : (s.modCond b f).converter = s.converter := rfl
@[simp] theorem State.modCond_table (b : Bay) (f : Conditions → Conditions) (s : State) : (s.modCond b f).table = s.table := rfl
@[simp] theorem State.modCond_curves (b : Bay) (f : Conditions → Conditions) (s : State) : (s.modCond b f).curves = s.curves := rfl
@[simp] theorem State.modCond_conditions (b : Bay) (f : Conditions → Conditions) (s : State) : (s.modCond b f).conditions = s.conditions.set b.val (f s.conditions[b]) := rfl
@[simp] theorem State.modCond_heat (b : Bay) (f : Conditions → Conditions) (s : State) : (s.modCond b f).heat = s.heat := rfl
@[simp] theorem State.modCond_feeder (b : Bay) (f : Conditions → Conditions) (s : State) : (s.modCond b f).feeder = s.feeder := rfl
@[simp] theorem State.modCond_notices (b : Bay) (f : Conditions → Conditions) (s : State) : (s.modCond b f).notices = s.notices := rfl
@[simp] theorem State.modCond_link (b : Bay) (f : Conditions → Conditions) (s : State) : (s.modCond b f).link = s.link := rfl
@[simp] theorem State.modCond_powerGoodMs (b : Bay) (f : Conditions → Conditions) (s : State) : (s.modCond b f).powerGoodMs = s.powerGoodMs := rfl
@[simp] theorem State.modCond_guard (b : Bay) (f : Conditions → Conditions) (s : State) : (s.modCond b f).guard = s.guard := rfl
@[simp] theorem State.modCond_settleRounds (b : Bay) (f : Conditions → Conditions) (s : State) : (s.modCond b f).settleRounds = s.settleRounds := rfl
@[simp] theorem State.modCond_smoothShift (b : Bay) (f : Conditions → Conditions) (s : State) : (s.modCond b f).smoothShift = s.smoothShift := rfl
@[simp] theorem State.modCond_outside (b : Bay) (f : Conditions → Conditions) (s : State) : (s.modCond b f).outside = s.outside := rfl
@[simp] theorem State.modCond_resetting (b : Bay) (f : Conditions → Conditions) (s : State) : (s.modCond b f).resetting = s.resetting := rfl
@[simp] theorem State.modCond_resetCause (b : Bay) (f : Conditions → Conditions) (s : State) : (s.modCond b f).resetCause = s.resetCause := rfl
@[simp] theorem State.modCond_pending (b : Bay) (f : Conditions → Conditions) (s : State) : (s.modCond b f).pending = s.pending := rfl

@[simp] theorem State.setHeat_timer (b : Bay) (on : Bool) (s : State) : (s.setHeat b on).timer = s.timer := rfl
@[simp] theorem State.setHeat_bays (b : Bay) (on : Bool) (s : State) : (s.setHeat b on).bays = s.bays := rfl
@[simp] theorem State.setHeat_doors (b : Bay) (on : Bool) (s : State) : (s.setHeat b on).doors = s.doors := rfl
@[simp] theorem State.setHeat_reader (b : Bay) (on : Bool) (s : State) : (s.setHeat b on).reader = s.reader := rfl
@[simp] theorem State.setHeat_converter (b : Bay) (on : Bool) (s : State) : (s.setHeat b on).converter = s.converter := rfl
@[simp] theorem State.setHeat_table (b : Bay) (on : Bool) (s : State) : (s.setHeat b on).table = s.table := rfl
@[simp] theorem State.setHeat_curves (b : Bay) (on : Bool) (s : State) : (s.setHeat b on).curves = s.curves := rfl
@[simp] theorem State.setHeat_conditions (b : Bay) (on : Bool) (s : State) : (s.setHeat b on).conditions = s.conditions := rfl
@[simp] theorem State.setHeat_heat (b : Bay) (on : Bool) (s : State) : (s.setHeat b on).heat = s.heat.set b.val on := rfl
@[simp] theorem State.setHeat_feeder (b : Bay) (on : Bool) (s : State) : (s.setHeat b on).feeder = s.feeder := rfl
@[simp] theorem State.setHeat_notices (b : Bay) (on : Bool) (s : State) : (s.setHeat b on).notices = s.notices := rfl
@[simp] theorem State.setHeat_link (b : Bay) (on : Bool) (s : State) : (s.setHeat b on).link = s.link := rfl
@[simp] theorem State.setHeat_powerGoodMs (b : Bay) (on : Bool) (s : State) : (s.setHeat b on).powerGoodMs = s.powerGoodMs := rfl
@[simp] theorem State.setHeat_guard (b : Bay) (on : Bool) (s : State) : (s.setHeat b on).guard = s.guard := rfl
@[simp] theorem State.setHeat_settleRounds (b : Bay) (on : Bool) (s : State) : (s.setHeat b on).settleRounds = s.settleRounds := rfl
@[simp] theorem State.setHeat_smoothShift (b : Bay) (on : Bool) (s : State) : (s.setHeat b on).smoothShift = s.smoothShift := rfl
@[simp] theorem State.setHeat_outside (b : Bay) (on : Bool) (s : State) : (s.setHeat b on).outside = s.outside := rfl
@[simp] theorem State.setHeat_resetting (b : Bay) (on : Bool) (s : State) : (s.setHeat b on).resetting = s.resetting := rfl
@[simp] theorem State.setHeat_resetCause (b : Bay) (on : Bool) (s : State) : (s.setHeat b on).resetCause = s.resetCause := rfl
@[simp] theorem State.setHeat_pending (b : Bay) (on : Bool) (s : State) : (s.setHeat b on).pending = s.pending := rfl

@[simp] theorem State.putSlot_timer (i : SlotIx) (r : Option Record) (s : State) : (s.putSlot i r).timer = s.timer := rfl
@[simp] theorem State.putSlot_bays (i : SlotIx) (r : Option Record) (s : State) : (s.putSlot i r).bays = s.bays := rfl
@[simp] theorem State.putSlot_doors (i : SlotIx) (r : Option Record) (s : State) : (s.putSlot i r).doors = s.doors := rfl
@[simp] theorem State.putSlot_reader (i : SlotIx) (r : Option Record) (s : State) : (s.putSlot i r).reader = s.reader := rfl
@[simp] theorem State.putSlot_converter (i : SlotIx) (r : Option Record) (s : State) : (s.putSlot i r).converter = s.converter := rfl
@[simp] theorem State.putSlot_table (i : SlotIx) (r : Option Record) (s : State) : (s.putSlot i r).table = s.table.set i.val r := rfl
@[simp] theorem State.putSlot_curves (i : SlotIx) (r : Option Record) (s : State) : (s.putSlot i r).curves = s.curves := rfl
@[simp] theorem State.putSlot_conditions (i : SlotIx) (r : Option Record) (s : State) : (s.putSlot i r).conditions = s.conditions := rfl
@[simp] theorem State.putSlot_heat (i : SlotIx) (r : Option Record) (s : State) : (s.putSlot i r).heat = s.heat := rfl
@[simp] theorem State.putSlot_feeder (i : SlotIx) (r : Option Record) (s : State) : (s.putSlot i r).feeder = s.feeder := rfl
@[simp] theorem State.putSlot_notices (i : SlotIx) (r : Option Record) (s : State) : (s.putSlot i r).notices = s.notices := rfl
@[simp] theorem State.putSlot_link (i : SlotIx) (r : Option Record) (s : State) : (s.putSlot i r).link = s.link := rfl
@[simp] theorem State.putSlot_powerGoodMs (i : SlotIx) (r : Option Record) (s : State) : (s.putSlot i r).powerGoodMs = s.powerGoodMs := rfl
@[simp] theorem State.putSlot_guard (i : SlotIx) (r : Option Record) (s : State) : (s.putSlot i r).guard = s.guard := rfl
@[simp] theorem State.putSlot_settleRounds (i : SlotIx) (r : Option Record) (s : State) : (s.putSlot i r).settleRounds = s.settleRounds := rfl
@[simp] theorem State.putSlot_smoothShift (i : SlotIx) (r : Option Record) (s : State) : (s.putSlot i r).smoothShift = s.smoothShift := rfl
@[simp] theorem State.putSlot_outside (i : SlotIx) (r : Option Record) (s : State) : (s.putSlot i r).outside = s.outside := rfl
@[simp] theorem State.putSlot_resetting (i : SlotIx) (r : Option Record) (s : State) : (s.putSlot i r).resetting = s.resetting := rfl
@[simp] theorem State.putSlot_resetCause (i : SlotIx) (r : Option Record) (s : State) : (s.putSlot i r).resetCause = s.resetCause := rfl
@[simp] theorem State.putSlot_pending (i : SlotIx) (r : Option Record) (s : State) : (s.putSlot i r).pending = s.pending := rfl

@[simp] theorem State.modSlot_timer (i : SlotIx) (f : Record → Record) (s : State) : (s.modSlot i f).timer = s.timer := rfl
@[simp] theorem State.modSlot_bays (i : SlotIx) (f : Record → Record) (s : State) : (s.modSlot i f).bays = s.bays := rfl
@[simp] theorem State.modSlot_doors (i : SlotIx) (f : Record → Record) (s : State) : (s.modSlot i f).doors = s.doors := rfl
@[simp] theorem State.modSlot_reader (i : SlotIx) (f : Record → Record) (s : State) : (s.modSlot i f).reader = s.reader := rfl
@[simp] theorem State.modSlot_converter (i : SlotIx) (f : Record → Record) (s : State) : (s.modSlot i f).converter = s.converter := rfl
@[simp] theorem State.modSlot_table (i : SlotIx) (f : Record → Record) (s : State) : (s.modSlot i f).table = s.table.set i.val (s.table[i].map f) := rfl
@[simp] theorem State.modSlot_curves (i : SlotIx) (f : Record → Record) (s : State) : (s.modSlot i f).curves = s.curves := rfl
@[simp] theorem State.modSlot_conditions (i : SlotIx) (f : Record → Record) (s : State) : (s.modSlot i f).conditions = s.conditions := rfl
@[simp] theorem State.modSlot_heat (i : SlotIx) (f : Record → Record) (s : State) : (s.modSlot i f).heat = s.heat := rfl
@[simp] theorem State.modSlot_feeder (i : SlotIx) (f : Record → Record) (s : State) : (s.modSlot i f).feeder = s.feeder := rfl
@[simp] theorem State.modSlot_notices (i : SlotIx) (f : Record → Record) (s : State) : (s.modSlot i f).notices = s.notices := rfl
@[simp] theorem State.modSlot_link (i : SlotIx) (f : Record → Record) (s : State) : (s.modSlot i f).link = s.link := rfl
@[simp] theorem State.modSlot_powerGoodMs (i : SlotIx) (f : Record → Record) (s : State) : (s.modSlot i f).powerGoodMs = s.powerGoodMs := rfl
@[simp] theorem State.modSlot_guard (i : SlotIx) (f : Record → Record) (s : State) : (s.modSlot i f).guard = s.guard := rfl
@[simp] theorem State.modSlot_settleRounds (i : SlotIx) (f : Record → Record) (s : State) : (s.modSlot i f).settleRounds = s.settleRounds := rfl
@[simp] theorem State.modSlot_smoothShift (i : SlotIx) (f : Record → Record) (s : State) : (s.modSlot i f).smoothShift = s.smoothShift := rfl
@[simp] theorem State.modSlot_outside (i : SlotIx) (f : Record → Record) (s : State) : (s.modSlot i f).outside = s.outside := rfl
@[simp] theorem State.modSlot_resetting (i : SlotIx) (f : Record → Record) (s : State) : (s.modSlot i f).resetting = s.resetting := rfl
@[simp] theorem State.modSlot_resetCause (i : SlotIx) (f : Record → Record) (s : State) : (s.modSlot i f).resetCause = s.resetCause := rfl
@[simp] theorem State.modSlot_pending (i : SlotIx) (f : Record → Record) (s : State) : (s.modSlot i f).pending = s.pending := rfl

@[simp] theorem State.modConverter_timer (f : Converter → Converter) (s : State) : (s.modConverter f).timer = s.timer := rfl
@[simp] theorem State.modConverter_bays (f : Converter → Converter) (s : State) : (s.modConverter f).bays = s.bays := rfl
@[simp] theorem State.modConverter_doors (f : Converter → Converter) (s : State) : (s.modConverter f).doors = s.doors := rfl
@[simp] theorem State.modConverter_reader (f : Converter → Converter) (s : State) : (s.modConverter f).reader = s.reader := rfl
@[simp] theorem State.modConverter_converter (f : Converter → Converter) (s : State) : (s.modConverter f).converter = f s.converter := rfl
@[simp] theorem State.modConverter_table (f : Converter → Converter) (s : State) : (s.modConverter f).table = s.table := rfl
@[simp] theorem State.modConverter_curves (f : Converter → Converter) (s : State) : (s.modConverter f).curves = s.curves := rfl
@[simp] theorem State.modConverter_conditions (f : Converter → Converter) (s : State) : (s.modConverter f).conditions = s.conditions := rfl
@[simp] theorem State.modConverter_heat (f : Converter → Converter) (s : State) : (s.modConverter f).heat = s.heat := rfl
@[simp] theorem State.modConverter_feeder (f : Converter → Converter) (s : State) : (s.modConverter f).feeder = s.feeder := rfl
@[simp] theorem State.modConverter_notices (f : Converter → Converter) (s : State) : (s.modConverter f).notices = s.notices := rfl
@[simp] theorem State.modConverter_link (f : Converter → Converter) (s : State) : (s.modConverter f).link = s.link := rfl
@[simp] theorem State.modConverter_powerGoodMs (f : Converter → Converter) (s : State) : (s.modConverter f).powerGoodMs = s.powerGoodMs := rfl
@[simp] theorem State.modConverter_guard (f : Converter → Converter) (s : State) : (s.modConverter f).guard = s.guard := rfl
@[simp] theorem State.modConverter_settleRounds (f : Converter → Converter) (s : State) : (s.modConverter f).settleRounds = s.settleRounds := rfl
@[simp] theorem State.modConverter_smoothShift (f : Converter → Converter) (s : State) : (s.modConverter f).smoothShift = s.smoothShift := rfl
@[simp] theorem State.modConverter_outside (f : Converter → Converter) (s : State) : (s.modConverter f).outside = s.outside := rfl
@[simp] theorem State.modConverter_resetting (f : Converter → Converter) (s : State) : (s.modConverter f).resetting = s.resetting := rfl
@[simp] theorem State.modConverter_resetCause (f : Converter → Converter) (s : State) : (s.modConverter f).resetCause = s.resetCause := rfl
@[simp] theorem State.modConverter_pending (f : Converter → Converter) (s : State) : (s.modConverter f).pending = s.pending := rfl

@[simp] theorem State.modFeeder_timer (f : Feeder → Feeder) (s : State) : (s.modFeeder f).timer = s.timer := rfl
@[simp] theorem State.modFeeder_bays (f : Feeder → Feeder) (s : State) : (s.modFeeder f).bays = s.bays := rfl
@[simp] theorem State.modFeeder_doors (f : Feeder → Feeder) (s : State) : (s.modFeeder f).doors = s.doors := rfl
@[simp] theorem State.modFeeder_reader (f : Feeder → Feeder) (s : State) : (s.modFeeder f).reader = s.reader := rfl
@[simp] theorem State.modFeeder_converter (f : Feeder → Feeder) (s : State) : (s.modFeeder f).converter = s.converter := rfl
@[simp] theorem State.modFeeder_table (f : Feeder → Feeder) (s : State) : (s.modFeeder f).table = s.table := rfl
@[simp] theorem State.modFeeder_curves (f : Feeder → Feeder) (s : State) : (s.modFeeder f).curves = s.curves := rfl
@[simp] theorem State.modFeeder_conditions (f : Feeder → Feeder) (s : State) : (s.modFeeder f).conditions = s.conditions := rfl
@[simp] theorem State.modFeeder_heat (f : Feeder → Feeder) (s : State) : (s.modFeeder f).heat = s.heat := rfl
@[simp] theorem State.modFeeder_feeder (f : Feeder → Feeder) (s : State) : (s.modFeeder f).feeder = f s.feeder := rfl
@[simp] theorem State.modFeeder_notices (f : Feeder → Feeder) (s : State) : (s.modFeeder f).notices = s.notices := rfl
@[simp] theorem State.modFeeder_link (f : Feeder → Feeder) (s : State) : (s.modFeeder f).link = s.link := rfl
@[simp] theorem State.modFeeder_powerGoodMs (f : Feeder → Feeder) (s : State) : (s.modFeeder f).powerGoodMs = s.powerGoodMs := rfl
@[simp] theorem State.modFeeder_guard (f : Feeder → Feeder) (s : State) : (s.modFeeder f).guard = s.guard := rfl
@[simp] theorem State.modFeeder_settleRounds (f : Feeder → Feeder) (s : State) : (s.modFeeder f).settleRounds = s.settleRounds := rfl
@[simp] theorem State.modFeeder_smoothShift (f : Feeder → Feeder) (s : State) : (s.modFeeder f).smoothShift = s.smoothShift := rfl
@[simp] theorem State.modFeeder_outside (f : Feeder → Feeder) (s : State) : (s.modFeeder f).outside = s.outside := rfl
@[simp] theorem State.modFeeder_resetting (f : Feeder → Feeder) (s : State) : (s.modFeeder f).resetting = s.resetting := rfl
@[simp] theorem State.modFeeder_resetCause (f : Feeder → Feeder) (s : State) : (s.modFeeder f).resetCause = s.resetCause := rfl
@[simp] theorem State.modFeeder_pending (f : Feeder → Feeder) (s : State) : (s.modFeeder f).pending = s.pending := rfl

@[simp] theorem State.modNotices_timer (f : Notices → Notices) (s : State) : (s.modNotices f).timer = s.timer := rfl
@[simp] theorem State.modNotices_bays (f : Notices → Notices) (s : State) : (s.modNotices f).bays = s.bays := rfl
@[simp] theorem State.modNotices_doors (f : Notices → Notices) (s : State) : (s.modNotices f).doors = s.doors := rfl
@[simp] theorem State.modNotices_reader (f : Notices → Notices) (s : State) : (s.modNotices f).reader = s.reader := rfl
@[simp] theorem State.modNotices_converter (f : Notices → Notices) (s : State) : (s.modNotices f).converter = s.converter := rfl
@[simp] theorem State.modNotices_table (f : Notices → Notices) (s : State) : (s.modNotices f).table = s.table := rfl
@[simp] theorem State.modNotices_curves (f : Notices → Notices) (s : State) : (s.modNotices f).curves = s.curves := rfl
@[simp] theorem State.modNotices_conditions (f : Notices → Notices) (s : State) : (s.modNotices f).conditions = s.conditions := rfl
@[simp] theorem State.modNotices_heat (f : Notices → Notices) (s : State) : (s.modNotices f).heat = s.heat := rfl
@[simp] theorem State.modNotices_feeder (f : Notices → Notices) (s : State) : (s.modNotices f).feeder = s.feeder := rfl
@[simp] theorem State.modNotices_notices (f : Notices → Notices) (s : State) : (s.modNotices f).notices = f s.notices := rfl
@[simp] theorem State.modNotices_link (f : Notices → Notices) (s : State) : (s.modNotices f).link = s.link := rfl
@[simp] theorem State.modNotices_powerGoodMs (f : Notices → Notices) (s : State) : (s.modNotices f).powerGoodMs = s.powerGoodMs := rfl
@[simp] theorem State.modNotices_guard (f : Notices → Notices) (s : State) : (s.modNotices f).guard = s.guard := rfl
@[simp] theorem State.modNotices_settleRounds (f : Notices → Notices) (s : State) : (s.modNotices f).settleRounds = s.settleRounds := rfl
@[simp] theorem State.modNotices_smoothShift (f : Notices → Notices) (s : State) : (s.modNotices f).smoothShift = s.smoothShift := rfl
@[simp] theorem State.modNotices_outside (f : Notices → Notices) (s : State) : (s.modNotices f).outside = s.outside := rfl
@[simp] theorem State.modNotices_resetting (f : Notices → Notices) (s : State) : (s.modNotices f).resetting = s.resetting := rfl
@[simp] theorem State.modNotices_resetCause (f : Notices → Notices) (s : State) : (s.modNotices f).resetCause = s.resetCause := rfl
@[simp] theorem State.modNotices_pending (f : Notices → Notices) (s : State) : (s.modNotices f).pending = s.pending := rfl

@[simp] theorem State.modReader_timer (f : Reader → Reader) (s : State) : (s.modReader f).timer = s.timer := rfl
@[simp] theorem State.modReader_bays (f : Reader → Reader) (s : State) : (s.modReader f).bays = s.bays := rfl
@[simp] theorem State.modReader_doors (f : Reader → Reader) (s : State) : (s.modReader f).doors = s.doors := rfl
@[simp] theorem State.modReader_reader (f : Reader → Reader) (s : State) : (s.modReader f).reader = f s.reader := rfl
@[simp] theorem State.modReader_converter (f : Reader → Reader) (s : State) : (s.modReader f).converter = s.converter := rfl
@[simp] theorem State.modReader_table (f : Reader → Reader) (s : State) : (s.modReader f).table = s.table := rfl
@[simp] theorem State.modReader_curves (f : Reader → Reader) (s : State) : (s.modReader f).curves = s.curves := rfl
@[simp] theorem State.modReader_conditions (f : Reader → Reader) (s : State) : (s.modReader f).conditions = s.conditions := rfl
@[simp] theorem State.modReader_heat (f : Reader → Reader) (s : State) : (s.modReader f).heat = s.heat := rfl
@[simp] theorem State.modReader_feeder (f : Reader → Reader) (s : State) : (s.modReader f).feeder = s.feeder := rfl
@[simp] theorem State.modReader_notices (f : Reader → Reader) (s : State) : (s.modReader f).notices = s.notices := rfl
@[simp] theorem State.modReader_link (f : Reader → Reader) (s : State) : (s.modReader f).link = s.link := rfl
@[simp] theorem State.modReader_powerGoodMs (f : Reader → Reader) (s : State) : (s.modReader f).powerGoodMs = s.powerGoodMs := rfl
@[simp] theorem State.modReader_guard (f : Reader → Reader) (s : State) : (s.modReader f).guard = s.guard := rfl
@[simp] theorem State.modReader_settleRounds (f : Reader → Reader) (s : State) : (s.modReader f).settleRounds = s.settleRounds := rfl
@[simp] theorem State.modReader_smoothShift (f : Reader → Reader) (s : State) : (s.modReader f).smoothShift = s.smoothShift := rfl
@[simp] theorem State.modReader_outside (f : Reader → Reader) (s : State) : (s.modReader f).outside = s.outside := rfl
@[simp] theorem State.modReader_resetting (f : Reader → Reader) (s : State) : (s.modReader f).resetting = s.resetting := rfl
@[simp] theorem State.modReader_resetCause (f : Reader → Reader) (s : State) : (s.modReader f).resetCause = s.resetCause := rfl
@[simp] theorem State.modReader_pending (f : Reader → Reader) (s : State) : (s.modReader f).pending = s.pending := rfl

@[simp] theorem State.modLink_timer (f : Link → Link) (s : State) : (s.modLink f).timer = s.timer := rfl
@[simp] theorem State.modLink_bays (f : Link → Link) (s : State) : (s.modLink f).bays = s.bays := rfl
@[simp] theorem State.modLink_doors (f : Link → Link) (s : State) : (s.modLink f).doors = s.doors := rfl
@[simp] theorem State.modLink_reader (f : Link → Link) (s : State) : (s.modLink f).reader = s.reader := rfl
@[simp] theorem State.modLink_converter (f : Link → Link) (s : State) : (s.modLink f).converter = s.converter := rfl
@[simp] theorem State.modLink_table (f : Link → Link) (s : State) : (s.modLink f).table = s.table := rfl
@[simp] theorem State.modLink_curves (f : Link → Link) (s : State) : (s.modLink f).curves = s.curves := rfl
@[simp] theorem State.modLink_conditions (f : Link → Link) (s : State) : (s.modLink f).conditions = s.conditions := rfl
@[simp] theorem State.modLink_heat (f : Link → Link) (s : State) : (s.modLink f).heat = s.heat := rfl
@[simp] theorem State.modLink_feeder (f : Link → Link) (s : State) : (s.modLink f).feeder = s.feeder := rfl
@[simp] theorem State.modLink_notices (f : Link → Link) (s : State) : (s.modLink f).notices = s.notices := rfl
@[simp] theorem State.modLink_link (f : Link → Link) (s : State) : (s.modLink f).link = f s.link := rfl
@[simp] theorem State.modLink_powerGoodMs (f : Link → Link) (s : State) : (s.modLink f).powerGoodMs = s.powerGoodMs := rfl
@[simp] theorem State.modLink_guard (f : Link → Link) (s : State) : (s.modLink f).guard = s.guard := rfl
@[simp] theorem State.modLink_settleRounds (f : Link → Link) (s : State) : (s.modLink f).settleRounds = s.settleRounds := rfl
@[simp] theorem State.modLink_smoothShift (f : Link → Link) (s : State) : (s.modLink f).smoothShift = s.smoothShift := rfl
@[simp] theorem State.modLink_outside (f : Link → Link) (s : State) : (s.modLink f).outside = s.outside := rfl
@[simp] theorem State.modLink_resetting (f : Link → Link) (s : State) : (s.modLink f).resetting = s.resetting := rfl
@[simp] theorem State.modLink_resetCause (f : Link → Link) (s : State) : (s.modLink f).resetCause = s.resetCause := rfl
@[simp] theorem State.modLink_pending (f : Link → Link) (s : State) : (s.modLink f).pending = s.pending := rfl

@[simp] theorem State.modTimer_timer (f : Timer → Timer) (s : State) : (s.modTimer f).timer = f s.timer := rfl
@[simp] theorem State.modTimer_bays (f : Timer → Timer) (s : State) : (s.modTimer f).bays = s.bays := rfl
@[simp] theorem State.modTimer_doors (f : Timer → Timer) (s : State) : (s.modTimer f).doors = s.doors := rfl
@[simp] theorem State.modTimer_reader (f : Timer → Timer) (s : State) : (s.modTimer f).reader = s.reader := rfl
@[simp] theorem State.modTimer_converter (f : Timer → Timer) (s : State) : (s.modTimer f).converter = s.converter := rfl
@[simp] theorem State.modTimer_table (f : Timer → Timer) (s : State) : (s.modTimer f).table = s.table := rfl
@[simp] theorem State.modTimer_curves (f : Timer → Timer) (s : State) : (s.modTimer f).curves = s.curves := rfl
@[simp] theorem State.modTimer_conditions (f : Timer → Timer) (s : State) : (s.modTimer f).conditions = s.conditions := rfl
@[simp] theorem State.modTimer_heat (f : Timer → Timer) (s : State) : (s.modTimer f).heat = s.heat := rfl
@[simp] theorem State.modTimer_feeder (f : Timer → Timer) (s : State) : (s.modTimer f).feeder = s.feeder := rfl
@[simp] theorem State.modTimer_notices (f : Timer → Timer) (s : State) : (s.modTimer f).notices = s.notices := rfl
@[simp] theorem State.modTimer_link (f : Timer → Timer) (s : State) : (s.modTimer f).link = s.link := rfl
@[simp] theorem State.modTimer_powerGoodMs (f : Timer → Timer) (s : State) : (s.modTimer f).powerGoodMs = s.powerGoodMs := rfl
@[simp] theorem State.modTimer_guard (f : Timer → Timer) (s : State) : (s.modTimer f).guard = s.guard := rfl
@[simp] theorem State.modTimer_settleRounds (f : Timer → Timer) (s : State) : (s.modTimer f).settleRounds = s.settleRounds := rfl
@[simp] theorem State.modTimer_smoothShift (f : Timer → Timer) (s : State) : (s.modTimer f).smoothShift = s.smoothShift := rfl
@[simp] theorem State.modTimer_outside (f : Timer → Timer) (s : State) : (s.modTimer f).outside = s.outside := rfl
@[simp] theorem State.modTimer_resetting (f : Timer → Timer) (s : State) : (s.modTimer f).resetting = s.resetting := rfl
@[simp] theorem State.modTimer_resetCause (f : Timer → Timer) (s : State) : (s.modTimer f).resetCause = s.resetCause := rfl
@[simp] theorem State.modTimer_pending (f : Timer → Timer) (s : State) : (s.modTimer f).pending = s.pending := rfl

@[simp] theorem State.modOutside_timer (f : Outside → Outside) (s : State) : (s.modOutside f).timer = s.timer := rfl
@[simp] theorem State.modOutside_bays (f : Outside → Outside) (s : State) : (s.modOutside f).bays = s.bays := rfl
@[simp] theorem State.modOutside_doors (f : Outside → Outside) (s : State) : (s.modOutside f).doors = s.doors := rfl
@[simp] theorem State.modOutside_reader (f : Outside → Outside) (s : State) : (s.modOutside f).reader = s.reader := rfl
@[simp] theorem State.modOutside_converter (f : Outside → Outside) (s : State) : (s.modOutside f).converter = s.converter := rfl
@[simp] theorem State.modOutside_table (f : Outside → Outside) (s : State) : (s.modOutside f).table = s.table := rfl
@[simp] theorem State.modOutside_curves (f : Outside → Outside) (s : State) : (s.modOutside f).curves = s.curves := rfl
@[simp] theorem State.modOutside_conditions (f : Outside → Outside) (s : State) : (s.modOutside f).conditions = s.conditions := rfl
@[simp] theorem State.modOutside_heat (f : Outside → Outside) (s : State) : (s.modOutside f).heat = s.heat := rfl
@[simp] theorem State.modOutside_feeder (f : Outside → Outside) (s : State) : (s.modOutside f).feeder = s.feeder := rfl
@[simp] theorem State.modOutside_notices (f : Outside → Outside) (s : State) : (s.modOutside f).notices = s.notices := rfl
@[simp] theorem State.modOutside_link (f : Outside → Outside) (s : State) : (s.modOutside f).link = s.link := rfl
@[simp] theorem State.modOutside_powerGoodMs (f : Outside → Outside) (s : State) : (s.modOutside f).powerGoodMs = s.powerGoodMs := rfl
@[simp] theorem State.modOutside_guard (f : Outside → Outside) (s : State) : (s.modOutside f).guard = s.guard := rfl
@[simp] theorem State.modOutside_settleRounds (f : Outside → Outside) (s : State) : (s.modOutside f).settleRounds = s.settleRounds := rfl
@[simp] theorem State.modOutside_smoothShift (f : Outside → Outside) (s : State) : (s.modOutside f).smoothShift = s.smoothShift := rfl
@[simp] theorem State.modOutside_outside (f : Outside → Outside) (s : State) : (s.modOutside f).outside = f s.outside := rfl
@[simp] theorem State.modOutside_resetting (f : Outside → Outside) (s : State) : (s.modOutside f).resetting = s.resetting := rfl
@[simp] theorem State.modOutside_resetCause (f : Outside → Outside) (s : State) : (s.modOutside f).resetCause = s.resetCause := rfl
@[simp] theorem State.modOutside_pending (f : Outside → Outside) (s : State) : (s.modOutside f).pending = s.pending := rfl

@[simp] theorem State.setTagLine_timer (b : Bay) (high : Bool) (s : State) : (s.setTagLine b high).timer = s.timer := rfl
@[simp] theorem State.setTagLine_bays (b : Bay) (high : Bool) (s : State) : (s.setTagLine b high).bays = s.bays := rfl
@[simp] theorem State.setTagLine_doors (b : Bay) (high : Bool) (s : State) : (s.setTagLine b high).doors = s.doors := rfl
@[simp] theorem State.setTagLine_reader (b : Bay) (high : Bool) (s : State) : (s.setTagLine b high).reader = s.reader := rfl
@[simp] theorem State.setTagLine_converter (b : Bay) (high : Bool) (s : State) : (s.setTagLine b high).converter = s.converter := rfl
@[simp] theorem State.setTagLine_table (b : Bay) (high : Bool) (s : State) : (s.setTagLine b high).table = s.table := rfl
@[simp] theorem State.setTagLine_curves (b : Bay) (high : Bool) (s : State) : (s.setTagLine b high).curves = s.curves := rfl
@[simp] theorem State.setTagLine_conditions (b : Bay) (high : Bool) (s : State) : (s.setTagLine b high).conditions = s.conditions := rfl
@[simp] theorem State.setTagLine_heat (b : Bay) (high : Bool) (s : State) : (s.setTagLine b high).heat = s.heat := rfl
@[simp] theorem State.setTagLine_feeder (b : Bay) (high : Bool) (s : State) : (s.setTagLine b high).feeder = s.feeder := rfl
@[simp] theorem State.setTagLine_notices (b : Bay) (high : Bool) (s : State) : (s.setTagLine b high).notices = s.notices := rfl
@[simp] theorem State.setTagLine_link (b : Bay) (high : Bool) (s : State) : (s.setTagLine b high).link = s.link := rfl
@[simp] theorem State.setTagLine_powerGoodMs (b : Bay) (high : Bool) (s : State) : (s.setTagLine b high).powerGoodMs = s.powerGoodMs := rfl
@[simp] theorem State.setTagLine_guard (b : Bay) (high : Bool) (s : State) : (s.setTagLine b high).guard = s.guard := rfl
@[simp] theorem State.setTagLine_settleRounds (b : Bay) (high : Bool) (s : State) : (s.setTagLine b high).settleRounds = s.settleRounds := rfl
@[simp] theorem State.setTagLine_smoothShift (b : Bay) (high : Bool) (s : State) : (s.setTagLine b high).smoothShift = s.smoothShift := rfl
@[simp] theorem State.setTagLine_outside (b : Bay) (high : Bool) (s : State) : (s.setTagLine b high).outside = { s.outside with tags := s.outside.tags.set b.val high } := rfl
@[simp] theorem State.setTagLine_resetting (b : Bay) (high : Bool) (s : State) : (s.setTagLine b high).resetting = s.resetting := rfl
@[simp] theorem State.setTagLine_resetCause (b : Bay) (high : Bool) (s : State) : (s.setTagLine b high).resetCause = s.resetCause := rfl
@[simp] theorem State.setTagLine_pending (b : Bay) (high : Bool) (s : State) : (s.setTagLine b high).pending = s.pending := rfl

@[simp] theorem State.modLines_timer (b : Bay) (f : LineSample → LineSample) (s : State) : (s.modLines b f).timer = s.timer := rfl
@[simp] theorem State.modLines_bays (b : Bay) (f : LineSample → LineSample) (s : State) : (s.modLines b f).bays = s.bays := rfl
@[simp] theorem State.modLines_doors (b : Bay) (f : LineSample → LineSample) (s : State) : (s.modLines b f).doors = s.doors := rfl
@[simp] theorem State.modLines_reader (b : Bay) (f : LineSample → LineSample) (s : State) : (s.modLines b f).reader = s.reader := rfl
@[simp] theorem State.modLines_converter (b : Bay) (f : LineSample → LineSample) (s : State) : (s.modLines b f).converter = s.converter := rfl
@[simp] theorem State.modLines_table (b : Bay) (f : LineSample → LineSample) (s : State) : (s.modLines b f).table = s.table := rfl
@[simp] theorem State.modLines_curves (b : Bay) (f : LineSample → LineSample) (s : State) : (s.modLines b f).curves = s.curves := rfl
@[simp] theorem State.modLines_conditions (b : Bay) (f : LineSample → LineSample) (s : State) : (s.modLines b f).conditions = s.conditions := rfl
@[simp] theorem State.modLines_heat (b : Bay) (f : LineSample → LineSample) (s : State) : (s.modLines b f).heat = s.heat := rfl
@[simp] theorem State.modLines_feeder (b : Bay) (f : LineSample → LineSample) (s : State) : (s.modLines b f).feeder = s.feeder := rfl
@[simp] theorem State.modLines_notices (b : Bay) (f : LineSample → LineSample) (s : State) : (s.modLines b f).notices = s.notices := rfl
@[simp] theorem State.modLines_link (b : Bay) (f : LineSample → LineSample) (s : State) : (s.modLines b f).link = s.link := rfl
@[simp] theorem State.modLines_powerGoodMs (b : Bay) (f : LineSample → LineSample) (s : State) : (s.modLines b f).powerGoodMs = s.powerGoodMs := rfl
@[simp] theorem State.modLines_guard (b : Bay) (f : LineSample → LineSample) (s : State) : (s.modLines b f).guard = s.guard := rfl
@[simp] theorem State.modLines_settleRounds (b : Bay) (f : LineSample → LineSample) (s : State) : (s.modLines b f).settleRounds = s.settleRounds := rfl
@[simp] theorem State.modLines_smoothShift (b : Bay) (f : LineSample → LineSample) (s : State) : (s.modLines b f).smoothShift = s.smoothShift := rfl
@[simp] theorem State.modLines_outside (b : Bay) (f : LineSample → LineSample) (s : State) : (s.modLines b f).outside = { s.outside with lines := s.outside.lines.set b.val (f s.outside.lines[b]) } := rfl
@[simp] theorem State.modLines_resetting (b : Bay) (f : LineSample → LineSample) (s : State) : (s.modLines b f).resetting = s.resetting := rfl
@[simp] theorem State.modLines_resetCause (b : Bay) (f : LineSample → LineSample) (s : State) : (s.modLines b f).resetCause = s.resetCause := rfl
@[simp] theorem State.modLines_pending (b : Bay) (f : LineSample → LineSample) (s : State) : (s.modLines b f).pending = s.pending := rfl

@[simp] theorem raiseAt_timer (k : BayKind) (b : Bay) (t : Option TrailerNo) (v : Option NoticeValue) (s : State) :
    (raiseAt k b t v s).timer = s.timer := rfl
@[simp] theorem raiseAt_bays (k : BayKind) (b : Bay) (t : Option TrailerNo) (v : Option NoticeValue) (s : State) :
    (raiseAt k b t v s).bays = s.bays := rfl
@[simp] theorem raiseAt_doors (k : BayKind) (b : Bay) (t : Option TrailerNo) (v : Option NoticeValue) (s : State) :
    (raiseAt k b t v s).doors = s.doors := rfl
@[simp] theorem raiseAt_reader (k : BayKind) (b : Bay) (t : Option TrailerNo) (v : Option NoticeValue) (s : State) :
    (raiseAt k b t v s).reader = s.reader := rfl
@[simp] theorem raiseAt_converter (k : BayKind) (b : Bay) (t : Option TrailerNo) (v : Option NoticeValue) (s : State) :
    (raiseAt k b t v s).converter = s.converter := rfl
@[simp] theorem raiseAt_table (k : BayKind) (b : Bay) (t : Option TrailerNo) (v : Option NoticeValue) (s : State) :
    (raiseAt k b t v s).table = s.table := rfl
@[simp] theorem raiseAt_curves (k : BayKind) (b : Bay) (t : Option TrailerNo) (v : Option NoticeValue) (s : State) :
    (raiseAt k b t v s).curves = s.curves := rfl
@[simp] theorem raiseAt_conditions (k : BayKind) (b : Bay) (t : Option TrailerNo) (v : Option NoticeValue) (s : State) :
    (raiseAt k b t v s).conditions = s.conditions := rfl
@[simp] theorem raiseAt_heat (k : BayKind) (b : Bay) (t : Option TrailerNo) (v : Option NoticeValue) (s : State) :
    (raiseAt k b t v s).heat = s.heat := rfl
@[simp] theorem raiseAt_feeder (k : BayKind) (b : Bay) (t : Option TrailerNo) (v : Option NoticeValue) (s : State) :
    (raiseAt k b t v s).feeder = s.feeder := rfl
@[simp] theorem raiseAt_notices (k : BayKind) (b : Bay) (t : Option TrailerNo) (v : Option NoticeValue) (s : State) :
    (raiseAt k b t v s).notices = s.notices.raise s.timer.number (.bay k b) t v := rfl
@[simp] theorem raiseAt_link (k : BayKind) (b : Bay) (t : Option TrailerNo) (v : Option NoticeValue) (s : State) :
    (raiseAt k b t v s).link = s.link := rfl
@[simp] theorem raiseAt_powerGoodMs (k : BayKind) (b : Bay) (t : Option TrailerNo) (v : Option NoticeValue) (s : State) :
    (raiseAt k b t v s).powerGoodMs = s.powerGoodMs := rfl
@[simp] theorem raiseAt_guard (k : BayKind) (b : Bay) (t : Option TrailerNo) (v : Option NoticeValue) (s : State) :
    (raiseAt k b t v s).guard = s.guard := rfl
@[simp] theorem raiseAt_settleRounds (k : BayKind) (b : Bay) (t : Option TrailerNo) (v : Option NoticeValue) (s : State) :
    (raiseAt k b t v s).settleRounds = s.settleRounds := rfl
@[simp] theorem raiseAt_smoothShift (k : BayKind) (b : Bay) (t : Option TrailerNo) (v : Option NoticeValue) (s : State) :
    (raiseAt k b t v s).smoothShift = s.smoothShift := rfl
@[simp] theorem raiseAt_outside (k : BayKind) (b : Bay) (t : Option TrailerNo) (v : Option NoticeValue) (s : State) :
    (raiseAt k b t v s).outside = s.outside := rfl
@[simp] theorem raiseAt_resetting (k : BayKind) (b : Bay) (t : Option TrailerNo) (v : Option NoticeValue) (s : State) :
    (raiseAt k b t v s).resetting = s.resetting := rfl
@[simp] theorem raiseAt_resetCause (k : BayKind) (b : Bay) (t : Option TrailerNo) (v : Option NoticeValue) (s : State) :
    (raiseAt k b t v s).resetCause = s.resetCause := rfl
@[simp] theorem raiseAt_pending (k : BayKind) (b : Bay) (t : Option TrailerNo) (v : Option NoticeValue) (s : State) :
    (raiseAt k b t v s).pending = s.pending := rfl

@[simp] theorem presentAt_timer (k : BayKind) (b : Bay) (t : Option TrailerNo) (v : Option NoticeValue) (s : State) :
    (presentAt k b t v s).timer = s.timer := rfl
@[simp] theorem presentAt_bays (k : BayKind) (b : Bay) (t : Option TrailerNo) (v : Option NoticeValue) (s : State) :
    (presentAt k b t v s).bays = s.bays := rfl
@[simp] theorem presentAt_doors (k : BayKind) (b : Bay) (t : Option TrailerNo) (v : Option NoticeValue) (s : State) :
    (presentAt k b t v s).doors = s.doors := rfl
@[simp] theorem presentAt_reader (k : BayKind) (b : Bay) (t : Option TrailerNo) (v : Option NoticeValue) (s : State) :
    (presentAt k b t v s).reader = s.reader := rfl
@[simp] theorem presentAt_converter (k : BayKind) (b : Bay) (t : Option TrailerNo) (v : Option NoticeValue) (s : State) :
    (presentAt k b t v s).converter = s.converter := rfl
@[simp] theorem presentAt_table (k : BayKind) (b : Bay) (t : Option TrailerNo) (v : Option NoticeValue) (s : State) :
    (presentAt k b t v s).table = s.table := rfl
@[simp] theorem presentAt_curves (k : BayKind) (b : Bay) (t : Option TrailerNo) (v : Option NoticeValue) (s : State) :
    (presentAt k b t v s).curves = s.curves := rfl
@[simp] theorem presentAt_conditions (k : BayKind) (b : Bay) (t : Option TrailerNo) (v : Option NoticeValue) (s : State) :
    (presentAt k b t v s).conditions = s.conditions := rfl
@[simp] theorem presentAt_heat (k : BayKind) (b : Bay) (t : Option TrailerNo) (v : Option NoticeValue) (s : State) :
    (presentAt k b t v s).heat = s.heat := rfl
@[simp] theorem presentAt_feeder (k : BayKind) (b : Bay) (t : Option TrailerNo) (v : Option NoticeValue) (s : State) :
    (presentAt k b t v s).feeder = s.feeder := rfl
@[simp] theorem presentAt_notices (k : BayKind) (b : Bay) (t : Option TrailerNo) (v : Option NoticeValue) (s : State) :
    (presentAt k b t v s).notices = s.notices.present s.timer.number (.bay k b) t v := rfl
@[simp] theorem presentAt_link (k : BayKind) (b : Bay) (t : Option TrailerNo) (v : Option NoticeValue) (s : State) :
    (presentAt k b t v s).link = s.link := rfl
@[simp] theorem presentAt_powerGoodMs (k : BayKind) (b : Bay) (t : Option TrailerNo) (v : Option NoticeValue) (s : State) :
    (presentAt k b t v s).powerGoodMs = s.powerGoodMs := rfl
@[simp] theorem presentAt_guard (k : BayKind) (b : Bay) (t : Option TrailerNo) (v : Option NoticeValue) (s : State) :
    (presentAt k b t v s).guard = s.guard := rfl
@[simp] theorem presentAt_settleRounds (k : BayKind) (b : Bay) (t : Option TrailerNo) (v : Option NoticeValue) (s : State) :
    (presentAt k b t v s).settleRounds = s.settleRounds := rfl
@[simp] theorem presentAt_smoothShift (k : BayKind) (b : Bay) (t : Option TrailerNo) (v : Option NoticeValue) (s : State) :
    (presentAt k b t v s).smoothShift = s.smoothShift := rfl
@[simp] theorem presentAt_outside (k : BayKind) (b : Bay) (t : Option TrailerNo) (v : Option NoticeValue) (s : State) :
    (presentAt k b t v s).outside = s.outside := rfl
@[simp] theorem presentAt_resetting (k : BayKind) (b : Bay) (t : Option TrailerNo) (v : Option NoticeValue) (s : State) :
    (presentAt k b t v s).resetting = s.resetting := rfl
@[simp] theorem presentAt_resetCause (k : BayKind) (b : Bay) (t : Option TrailerNo) (v : Option NoticeValue) (s : State) :
    (presentAt k b t v s).resetCause = s.resetCause := rfl
@[simp] theorem presentAt_pending (k : BayKind) (b : Bay) (t : Option TrailerNo) (v : Option NoticeValue) (s : State) :
    (presentAt k b t v s).pending = s.pending := rfl

@[simp] theorem ceaseAt_timer (k : BayKind) (b : Bay) (s : State) :
    (ceaseAt k b s).timer = s.timer := rfl
@[simp] theorem ceaseAt_bays (k : BayKind) (b : Bay) (s : State) :
    (ceaseAt k b s).bays = s.bays := rfl
@[simp] theorem ceaseAt_doors (k : BayKind) (b : Bay) (s : State) :
    (ceaseAt k b s).doors = s.doors := rfl
@[simp] theorem ceaseAt_reader (k : BayKind) (b : Bay) (s : State) :
    (ceaseAt k b s).reader = s.reader := rfl
@[simp] theorem ceaseAt_converter (k : BayKind) (b : Bay) (s : State) :
    (ceaseAt k b s).converter = s.converter := rfl
@[simp] theorem ceaseAt_table (k : BayKind) (b : Bay) (s : State) :
    (ceaseAt k b s).table = s.table := rfl
@[simp] theorem ceaseAt_curves (k : BayKind) (b : Bay) (s : State) :
    (ceaseAt k b s).curves = s.curves := rfl
@[simp] theorem ceaseAt_conditions (k : BayKind) (b : Bay) (s : State) :
    (ceaseAt k b s).conditions = s.conditions := rfl
@[simp] theorem ceaseAt_heat (k : BayKind) (b : Bay) (s : State) :
    (ceaseAt k b s).heat = s.heat := rfl
@[simp] theorem ceaseAt_feeder (k : BayKind) (b : Bay) (s : State) :
    (ceaseAt k b s).feeder = s.feeder := rfl
@[simp] theorem ceaseAt_notices (k : BayKind) (b : Bay) (s : State) :
    (ceaseAt k b s).notices = s.notices.cease s.timer.number (.bay k b) := rfl
@[simp] theorem ceaseAt_link (k : BayKind) (b : Bay) (s : State) :
    (ceaseAt k b s).link = s.link := rfl
@[simp] theorem ceaseAt_powerGoodMs (k : BayKind) (b : Bay) (s : State) :
    (ceaseAt k b s).powerGoodMs = s.powerGoodMs := rfl
@[simp] theorem ceaseAt_guard (k : BayKind) (b : Bay) (s : State) :
    (ceaseAt k b s).guard = s.guard := rfl
@[simp] theorem ceaseAt_settleRounds (k : BayKind) (b : Bay) (s : State) :
    (ceaseAt k b s).settleRounds = s.settleRounds := rfl
@[simp] theorem ceaseAt_smoothShift (k : BayKind) (b : Bay) (s : State) :
    (ceaseAt k b s).smoothShift = s.smoothShift := rfl
@[simp] theorem ceaseAt_outside (k : BayKind) (b : Bay) (s : State) :
    (ceaseAt k b s).outside = s.outside := rfl
@[simp] theorem ceaseAt_resetting (k : BayKind) (b : Bay) (s : State) :
    (ceaseAt k b s).resetting = s.resetting := rfl
@[simp] theorem ceaseAt_resetCause (k : BayKind) (b : Bay) (s : State) :
    (ceaseAt k b s).resetCause = s.resetCause := rfl
@[simp] theorem ceaseAt_pending (k : BayKind) (b : Bay) (s : State) :
    (ceaseAt k b s).pending = s.pending := rfl

@[simp] theorem ceaseIf_timer (p : Bool) (k : BayKind) (b : Bay) (s : State) : (ceaseIf p k b s).timer = s.timer := by
  cases p <;> rfl
@[simp] theorem ceaseIf_bays (p : Bool) (k : BayKind) (b : Bay) (s : State) : (ceaseIf p k b s).bays = s.bays := by
  cases p <;> rfl
@[simp] theorem ceaseIf_doors (p : Bool) (k : BayKind) (b : Bay) (s : State) : (ceaseIf p k b s).doors = s.doors := by
  cases p <;> rfl
@[simp] theorem ceaseIf_reader (p : Bool) (k : BayKind) (b : Bay) (s : State) : (ceaseIf p k b s).reader = s.reader := by
  cases p <;> rfl
@[simp] theorem ceaseIf_converter (p : Bool) (k : BayKind) (b : Bay) (s : State) : (ceaseIf p k b s).converter = s.converter := by
  cases p <;> rfl
@[simp] theorem ceaseIf_table (p : Bool) (k : BayKind) (b : Bay) (s : State) : (ceaseIf p k b s).table = s.table := by
  cases p <;> rfl
@[simp] theorem ceaseIf_curves (p : Bool) (k : BayKind) (b : Bay) (s : State) : (ceaseIf p k b s).curves = s.curves := by
  cases p <;> rfl
@[simp] theorem ceaseIf_conditions (p : Bool) (k : BayKind) (b : Bay) (s : State) : (ceaseIf p k b s).conditions = s.conditions := by
  cases p <;> rfl
@[simp] theorem ceaseIf_heat (p : Bool) (k : BayKind) (b : Bay) (s : State) : (ceaseIf p k b s).heat = s.heat := by
  cases p <;> rfl
@[simp] theorem ceaseIf_feeder (p : Bool) (k : BayKind) (b : Bay) (s : State) : (ceaseIf p k b s).feeder = s.feeder := by
  cases p <;> rfl
@[simp] theorem ceaseIf_notices (p : Bool) (k : BayKind) (b : Bay) (s : State) :
    (ceaseIf p k b s).notices = if p then s.notices.cease s.timer.number (.bay k b) else s.notices := by cases p <;> rfl
@[simp] theorem ceaseIf_link (p : Bool) (k : BayKind) (b : Bay) (s : State) : (ceaseIf p k b s).link = s.link := by
  cases p <;> rfl
@[simp] theorem ceaseIf_powerGoodMs (p : Bool) (k : BayKind) (b : Bay) (s : State) : (ceaseIf p k b s).powerGoodMs = s.powerGoodMs := by
  cases p <;> rfl
@[simp] theorem ceaseIf_guard (p : Bool) (k : BayKind) (b : Bay) (s : State) : (ceaseIf p k b s).guard = s.guard := by
  cases p <;> rfl
@[simp] theorem ceaseIf_settleRounds (p : Bool) (k : BayKind) (b : Bay) (s : State) : (ceaseIf p k b s).settleRounds = s.settleRounds := by
  cases p <;> rfl
@[simp] theorem ceaseIf_smoothShift (p : Bool) (k : BayKind) (b : Bay) (s : State) : (ceaseIf p k b s).smoothShift = s.smoothShift := by
  cases p <;> rfl
@[simp] theorem ceaseIf_outside (p : Bool) (k : BayKind) (b : Bay) (s : State) : (ceaseIf p k b s).outside = s.outside := by
  cases p <;> rfl
@[simp] theorem ceaseIf_resetting (p : Bool) (k : BayKind) (b : Bay) (s : State) : (ceaseIf p k b s).resetting = s.resetting := by
  cases p <;> rfl
@[simp] theorem ceaseIf_resetCause (p : Bool) (k : BayKind) (b : Bay) (s : State) : (ceaseIf p k b s).resetCause = s.resetCause := by
  cases p <;> rfl
@[simp] theorem ceaseIf_pending (p : Bool) (k : BayKind) (b : Bay) (s : State) : (ceaseIf p k b s).pending = s.pending := by
  cases p <;> rfl

@[simp] theorem State.modParked_timer (b : Bay) (f : Record → Record) (s : State) : (s.modParked b f).timer = s.timer := by
  unfold State.modParked; cases s.bays[b].ref <;> rfl
@[simp] theorem State.modParked_bays (b : Bay) (f : Record → Record) (s : State) : (s.modParked b f).bays = s.bays := by
  unfold State.modParked; cases s.bays[b].ref <;> rfl
@[simp] theorem State.modParked_doors (b : Bay) (f : Record → Record) (s : State) : (s.modParked b f).doors = s.doors := by
  unfold State.modParked; cases s.bays[b].ref <;> rfl
@[simp] theorem State.modParked_reader (b : Bay) (f : Record → Record) (s : State) : (s.modParked b f).reader = s.reader := by
  unfold State.modParked; cases s.bays[b].ref <;> rfl
@[simp] theorem State.modParked_converter (b : Bay) (f : Record → Record) (s : State) : (s.modParked b f).converter = s.converter := by
  unfold State.modParked; cases s.bays[b].ref <;> rfl
@[simp] theorem State.modParked_curves (b : Bay) (f : Record → Record) (s : State) : (s.modParked b f).curves = s.curves := by
  unfold State.modParked; cases s.bays[b].ref <;> rfl
@[simp] theorem State.modParked_conditions (b : Bay) (f : Record → Record) (s : State) : (s.modParked b f).conditions = s.conditions := by
  unfold State.modParked; cases s.bays[b].ref <;> rfl
@[simp] theorem State.modParked_heat (b : Bay) (f : Record → Record) (s : State) : (s.modParked b f).heat = s.heat := by
  unfold State.modParked; cases s.bays[b].ref <;> rfl
@[simp] theorem State.modParked_feeder (b : Bay) (f : Record → Record) (s : State) : (s.modParked b f).feeder = s.feeder := by
  unfold State.modParked; cases s.bays[b].ref <;> rfl
@[simp] theorem State.modParked_notices (b : Bay) (f : Record → Record) (s : State) : (s.modParked b f).notices = s.notices := by
  unfold State.modParked; cases s.bays[b].ref <;> rfl
@[simp] theorem State.modParked_link (b : Bay) (f : Record → Record) (s : State) : (s.modParked b f).link = s.link := by
  unfold State.modParked; cases s.bays[b].ref <;> rfl
@[simp] theorem State.modParked_powerGoodMs (b : Bay) (f : Record → Record) (s : State) : (s.modParked b f).powerGoodMs = s.powerGoodMs := by
  unfold State.modParked; cases s.bays[b].ref <;> rfl
@[simp] theorem State.modParked_guard (b : Bay) (f : Record → Record) (s : State) : (s.modParked b f).guard = s.guard := by
  unfold State.modParked; cases s.bays[b].ref <;> rfl
@[simp] theorem State.modParked_settleRounds (b : Bay) (f : Record → Record) (s : State) : (s.modParked b f).settleRounds = s.settleRounds := by
  unfold State.modParked; cases s.bays[b].ref <;> rfl
@[simp] theorem State.modParked_smoothShift (b : Bay) (f : Record → Record) (s : State) : (s.modParked b f).smoothShift = s.smoothShift := by
  unfold State.modParked; cases s.bays[b].ref <;> rfl
@[simp] theorem State.modParked_outside (b : Bay) (f : Record → Record) (s : State) : (s.modParked b f).outside = s.outside := by
  unfold State.modParked; cases s.bays[b].ref <;> rfl
@[simp] theorem State.modParked_resetting (b : Bay) (f : Record → Record) (s : State) : (s.modParked b f).resetting = s.resetting := by
  unfold State.modParked; cases s.bays[b].ref <;> rfl
@[simp] theorem State.modParked_resetCause (b : Bay) (f : Record → Record) (s : State) : (s.modParked b f).resetCause = s.resetCause := by
  unfold State.modParked; cases s.bays[b].ref <;> rfl
@[simp] theorem State.modParked_pending (b : Bay) (f : Record → Record) (s : State) : (s.modParked b f).pending = s.pending := by
  unfold State.modParked; cases s.bays[b].ref <;> rfl

/-- With a reference, the parked record is that of its slot. -/
theorem State.modParked_of_ref {s : State} {b : Bay} {i : SlotIx} (h : s.bays[b].ref = some i) (f : Record → Record) :
    s.modParked b f = s.modSlot i f := by
  simp only [State.modParked, h]

/-- Without a reference there is no record to change. -/
theorem State.modParked_of_no_ref {s : State} {b : Bay} (h : s.bays[b].ref = none) (f : Record → Record) :
    s.modParked b f = s := by
  simp only [State.modParked, h]

/-- The record a bay refers to. -/
theorem State.recordAt_of_ref {s : State} {b : Bay} {i : SlotIx} (h : s.bays[b].ref = some i) :
    s.recordAt b = s.table[i] := by
  simp only [State.recordAt, h, Option.bind_some]

/-- A bay without a reference has no record. -/
theorem State.recordAt_of_no_ref {s : State} {b : Bay} (h : s.bays[b].ref = none) : s.recordAt b = none := by
  simp only [State.recordAt, h, Option.bind_none]

/-- What `recordAt` finds stands in the slot referred to. -/
theorem State.recordAt_eq_some {s : State} {b : Bay} {r : Record} :
    s.recordAt b = some r ↔ ∃ i, s.bays[b].ref = some i ∧ s.table[i] = some r := by
  simp only [State.recordAt, Option.bind_eq_some_iff]

/-! ## One entry of a vector -/

/-- The entry that was set. -/
@[simp] theorem vector_set_same {α : Type} {n : Nat} (v : Vector α n) (i : Fin n) (a : α) : (v.set i.val a)[i] = a := by
  simp

/-- The entries that were not set. -/
theorem vector_set_other {α : Type} {n : Nat} (v : Vector α n) {i j : Fin n} (a : α) (h : j ≠ i) :
    (v.set i.val a)[j] = v[j] := by
  have : i.val ≠ j.val := fun e => h (Fin.ext e.symm)
  simp [this]

/-- Any entry after one was set. -/
theorem vector_set_get {α : Type} {n : Nat} (v : Vector α n) (i j : Fin n) (a : α) :
    (v.set i.val a)[j] = if j = i then a else v[j] := by
  by_cases h : j = i
  · subst h; simp
  · simp only [h, if_false]; exact vector_set_other v a h

/-- Setting an entry to what it holds. -/
@[simp] theorem vector_set_self {α : Type} {n : Nat} (v : Vector α n) (i : Fin n) : v.set i.val v[i] = v := by
  simp

/-- Of two settings of one entry the last stands. -/
@[simp] theorem vector_set_set {α : Type} {n : Nat} (v : Vector α n) (i : Fin n) (a c : α) :
    (v.set i.val a).set i.val c = v.set i.val c := by
  simp

end Sys2Proof.Machine
end

