-- ==== Sys2Proof/Laws/Exec.lean ====
section
/-! SUPPORT. How a command reaches its meaning: the gate of a reset, the host commands at the link, and the step. -/

namespace Sys2Proof.Machine

/-- Out of a reset the work is done. -/
theorem whenRunning_of_none {s : State} (h : s.resetting = none) (work : State → State) :
    whenRunning s work = .next (work s) := by
  simp only [whenRunning, h]

/-- In a reset nothing is done. -/
theorem whenRunning_of_some {s : State} {cause : ResetCause} (h : s.resetting = some cause) (work : State → State) :
    whenRunning s work = .next s := by
  simp only [whenRunning, h]

/-- The gate always answers a next state. -/
theorem whenRunning_next (s : State) (work : State → State) : ∃ t, whenRunning s work = .next t := by
  unfold whenRunning; split <;> exact ⟨_, rfl⟩

/-- A host command row is the accepted frame of its request. -/
theorem exec_of_requestOf {c : Instr} {r : Request} (h : requestOf c = some r) (s : State) :
    exec c s = whenRunning s (hostRequest r) := by
  cases c <;> simp only [requestOf, Option.some.injEq, reduceCtorEq] at h
  case curveWrite =>
    split at h
    · rename_i hl
      simp only [Option.some.injEq] at h
      subst h
      simp only [exec, execCurveWrite, hl, if_true]
    · simp only [reduceCtorEq] at h
  all_goals
    subst h
    simp only [exec, execBook, execAmend, execRetire, execLookup, execList, execAssign, execRebase, execDefrostNow,
      execDefrostStop, execBayStatus, execBayEnable, execBayDisable, execClearFault, execSpot,
      execCurveRead, execCurveClear, execSetRoundMs, execSetCheckAt, execSetGrantAt, execSetSweepAt,
      execSetReserveMs, execSetFuelEvery, execSetProbeEvery, execSetSettleRounds, execSetSmoothShift,
      execSetFeederUnits, execSetSagLevel, execSetRestoreRounds, execSetPowerGoodMs, execSetGuard,
      execSetResetCause, execGet, execRouteSet, execRouteRead, execTake, execAck, execReset, Setting.code]

/-- A request taken is carried out and answered. -/
theorem takeRequest_eq (r : Request) (s : State) :
    takeRequest r s = (runRequest r s).1.answering r (runRequest r s).2 := rfl

/-- A request that finds the transmitter IDLE is carried out and answered. -/
theorem hostRequest_of_ready {s : State} (h : s.ready) (r : Request) :
    hostRequest r s = (runRequest r s).1.answering r (runRequest r s).2 := by
  have e : hostRequest r s = takeRequest r s := by simp only [hostRequest, meetFrame, h.2]
  rw [e, takeRequest_eq]

/-- A host command in a ready state is carried out and answered. -/
theorem exec_of_ready {c : Instr} {r : Request} {s : State} (hr : requestOf c = some r) (h : s.ready) :
    exec c s = .next ((runRequest r s).1.answering r (runRequest r s).2) := by
  rw [exec_of_requestOf hr, whenRunning_of_none h.1, hostRequest_of_ready h]

/-- A ready state is out of a reset. -/
theorem State.ready.running {s : State} (h : s.ready) : s.resetting = none := h.1

/-- A step with a command waiting. -/
theorem step_of_cons (c : Instr) (rest : List Instr) (s : State) :
    step { s with pending := c :: rest } = exec c { s with pending := rest } := rfl

/-- A step with nothing waiting and an event due. -/
theorem step_of_due {s : State} {c : Instr} (h : s.pending = []) (hd : dueEvent s = some c) : step s = exec c s := by
  simp only [step, h, hd]

/-- A step with nothing waiting and no event due. -/
theorem step_of_nil {s : State} (h : s.pending = []) (hd : dueEvent s = none) : step s = .next (idleTick s) := by
  simp only [step, h, hd]

/-- A step is the effect of one command, its first waiting or the one that is due, or a microsecond of the time base. -/
theorem step_cases (s : State) :
    (∃ c t, step s = exec c t ∧ t = { s with pending := t.pending }) ∨ step s = .next (idleTick s) := by
  unfold step
  split
  · split
    · exact .inl ⟨_, s, rfl, rfl⟩
    · exact .inr rfl
  · exact .inl ⟨_, _, rfl, rfl⟩

/-! ## What an answer leaves alone -/

@[simp] theorem State.answering_timer (s : State) (r : Request) (a : Answer) : (s.answering r a).timer = s.timer := rfl
@[simp] theorem State.answering_bays (s : State) (r : Request) (a : Answer) : (s.answering r a).bays = s.bays := rfl
@[simp] theorem State.answering_doors (s : State) (r : Request) (a : Answer) : (s.answering r a).doors = s.doors := rfl
@[simp] theorem State.answering_reader (s : State) (r : Request) (a : Answer) : (s.answering r a).reader = s.reader := rfl
@[simp] theorem State.answering_converter (s : State) (r : Request) (a : Answer) :
    (s.answering r a).converter = s.converter := rfl
@[simp] theorem State.answering_table (s : State) (r : Request) (a : Answer) : (s.answering r a).table = s.table := rfl
@[simp] theorem State.answering_curves (s : State) (r : Request) (a : Answer) : (s.answering r a).curves = s.curves := rfl
@[simp] theorem State.answering_conditions (s : State) (r : Request) (a : Answer) :
    (s.answering r a).conditions = s.conditions := rfl
@[simp] theorem State.answering_heat (s : State) (r : Request) (a : Answer) : (s.answering r a).heat = s.heat := rfl
@[simp] theorem State.answering_feeder (s : State) (r : Request) (a : Answer) : (s.answering r a).feeder = s.feeder := rfl
@[simp] theorem State.answering_notices (s : State) (r : Request) (a : Answer) :
    (s.answering r a).notices = s.notices := rfl
@[simp] theorem State.answering_powerGoodMs (s : State) (r : Request) (a : Answer) :
    (s.answering r a).powerGoodMs = s.powerGoodMs := rfl
@[simp] theorem State.answering_guard (s : State) (r : Request) (a : Answer) : (s.answering r a).guard = s.guard := rfl
@[simp] theorem State.answering_settleRounds (s : State) (r : Request) (a : Answer) :
    (s.answering r a).settleRounds = s.settleRounds := rfl
@[simp] theorem State.answering_smoothShift (s : State) (r : Request) (a : Answer) :
    (s.answering r a).smoothShift = s.smoothShift := rfl
@[simp] theorem State.answering_outside (s : State) (r : Request) (a : Answer) : (s.answering r a).outside = s.outside := rfl
@[simp] theorem State.answering_resetting (s : State) (r : Request) (a : Answer) :
    (s.answering r a).resetting = s.resetting := rfl
@[simp] theorem State.answering_resetCause (s : State) (r : Request) (a : Answer) :
    (s.answering r a).resetCause = s.resetCause := rfl
@[simp] theorem State.answering_pending (s : State) (r : Request) (a : Answer) :
    (s.answering r a).pending = s.pending := rfl

end Sys2Proof.Machine
end

