-- ==== Sys2Proof/Laws/Frames.lean ====
section
/-! SUPPORT. What each shared operation can touch, said once: the operation equals the state before with the fields it
touches replaced. To read an untouched field, rewrite with the lemma. -/

namespace Sys2Proof.Machine

/-- R120: a return to WAITING touches the table and the permits. -/
theorem heatingToWaiting_frame (b : Bay) (s : State) :
    heatingToWaiting b s = { s with
      table := (heatingToWaiting b s).table, heat := (heatingToWaiting b s).heat } := by
  apply State.ext <;> first | rfl | (simp only [heatingToWaiting]; repeat' split) <;> simp

/-- R46, R120, R139: a bay leaving SERVING for FAULT or DISABLED touches the table, the permits and the grants. -/
theorem defrostLeavesServing_frame (b : Bay) (s : State) :
    defrostLeavesServing b s = { s with
      table := (defrostLeavesServing b s).table, heat := (defrostLeavesServing b s).heat, feeder :=
      (defrostLeavesServing b s).feeder } := by
  apply State.ext <;> first | rfl | (simp only [defrostLeavesServing, heatingToWaiting]; repeat' split) <;> simp

/-- R117: an end of heating touches the table, the permits, the grants and the notices. -/
theorem endHeating_frame (b : Bay) (r : Record) (s : State) :
    endHeating b r s = { s with
      table := (endHeating b r s).table, heat := (endHeating b r s).heat, feeder := (endHeating b r s).feeder,
      notices := (endHeating b r s).notices } := by
  apply State.ext <;> first | rfl | simp [endHeating]

/-- R114: an expiry in IDLE touches the table alone. -/
theorem expireIdle_frame (b : Bay) (r : Record) (s : State) :
    expireIdle b r s = { s with
      table := (expireIdle b r s).table } := by
  apply State.ext <;> first | rfl | simp [expireIdle]

/-- R115: an expiry in WAITING touches the table and the notices. -/
theorem expireWaiting_frame (b : Bay) (r : Record) (s : State) :
    expireWaiting b r s = { s with
      table := (expireWaiting b r s).table, notices := (expireWaiting b r s).notices } := by
  apply State.ext <;> first | rfl | simp [expireWaiting]

/-- R119: an end by maximum touches what an end of heating touches. -/
theorem expireHeating_frame (b : Bay) (r : Record) (n : Nat) (s : State) :
    expireHeating b r n s = { s with
      table := (expireHeating b r n s).table, heat := (expireHeating b r n s).heat, feeder := (expireHeating b r n
      s).feeder, notices := (expireHeating b r n s).notices } := by
  apply State.ext <;> first | rfl | simp [expireHeating, endHeating]

/-- R121: the end of a drip touches the table alone. -/
theorem expireDrip_frame (b : Bay) (r : Record) (s : State) :
    expireDrip b r s = { s with
      table := (expireDrip b r s).table } := by
  apply State.ext <;> first | rfl | simp [expireDrip]

/-- R114 to R121: the round-start work of a record touches the table, the permits, the grants and the notices. -/
theorem defrostRound_frame (b : Bay) (s : State) :
    defrostRound b s = { s with
      table := (defrostRound b s).table, heat := (defrostRound b s).heat, feeder := (defrostRound b s).feeder,
      notices := (defrostRound b s).notices } := by
  apply State.ext <;> first | rfl | (simp only [defrostRound, expireIdle, expireWaiting, expireHeating, endHeating, expireDrip]; repeat' split) <;> simp

/-- R41: an entry to SERVING touches the bays, the converter and the notices. -/
theorem enterServing_frame (b : Bay) (s : State) :
    enterServing b s = { s with
      bays := (enterServing b s).bays, converter := (enterServing b s).converter, notices := (enterServing b
      s).notices } := by
  apply State.ext <;> first | rfl | (simp only [enterServing]; repeat' split) <;> simp

/-- R45: a trip touches what a departure from SERVING touches, and the notices. -/
theorem trip_frame (b : Bay) (s : State) :
    trip b s = { s with
      bays := (trip b s).bays, converter := (trip b s).converter, table := (trip b s).table, heat := (trip b
      s).heat, feeder := (trip b s).feeder, notices := (trip b s).notices } := by
  apply State.ext <;> first | rfl | (simp only [trip, converterLeaves, defrostLeavesServing, heatingToWaiting]; repeat' split) <;> simp

/-- R14: leaving HELD touches the notices alone. -/
theorem ceaseHeld_frame (b : Bay) (s : State) :
    ceaseHeld b s = { s with
      notices := (ceaseHeld b s).notices } := by
  apply State.ext <;> first | rfl | (simp only [ceaseHeld]; repeat' split) <;> simp

/-- R13: becoming HELD touches the bays and the notices. -/
theorem hold_frame (b : Bay) (h : Held) (s : State) :
    hold b h s = { s with
      bays := (hold b h s).bays, notices := (hold b h s).notices } := by
  apply State.ext <;> first | rfl | (simp only [hold, ceaseHeld]; repeat' split) <;> simp

/-- R8, R41: parking touches the table, the bays, the converter and the notices. -/
theorem park_frame (i : SlotIx) (r : Record) (b : Bay) (s : State) :
    park i r b s = { s with
      bays := (park i r b s).bays, converter := (park i r b s).converter, table := (park i r b s).table, notices
      := (park i r b s).notices } := by
  apply State.ext <;> first | rfl | (simp only [park, enterServing, ceaseHeld]; repeat' split) <;> simp

/-- R10: departing touches the table, the bays, the permits, the grants and the notices. -/
theorem depart_frame (b : Bay) (s : State) :
    depart b s = { s with
      bays := (depart b s).bays, table := (depart b s).table, heat := (depart b s).heat, feeder := (depart b
      s).feeder, notices := (depart b s).notices } := by
  apply State.ext <;> first | rfl | (simp only [depart]; repeat' split) <;> simp

/-- R12: a match parks or holds. -/
theorem matchNumber_frame (b : Bay) (n : TrailerNo) (s : State) :
    matchNumber b n s = { s with
      bays := (matchNumber b n s).bays, converter := (matchNumber b n s).converter, table := (matchNumber b n
      s).table, notices := (matchNumber b n s).notices } := by
  apply State.ext <;> first
    | rfl
    | simp only [matchNumber]
      repeat' split
      all_goals first
        | rfl
        | rw [park_frame]
        | rw [hold_frame]

/-- R15: a retry parks or holds. -/
theorem retry_frame (b : Bay) (s : State) :
    retry b s = { s with
      bays := (retry b s).bays, converter := (retry b s).converter, table := (retry b s).table, notices := (retry
      b s).notices } := by
  apply State.ext <;> first
    | rfl
    | simp only [retry]
      repeat' split
      all_goals first
        | rfl
        | rw [matchNumber_frame]

/-- R49: BAY_DISABLE touches no door, curve, condition or setting. -/
theorem disable_frame (b : Bay) (s : State) :
    disable b s = { s with
      bays := (disable b s).bays, reader := (disable b s).reader, converter := (disable b s).converter, table :=
      (disable b s).table, heat := (disable b s).heat, feeder := (disable b s).feeder, notices := (disable b
      s).notices } := by
  apply State.ext <;> first | rfl | (simp only [disable, readerLeaves, converterLeaves, defrostLeavesServing, heatingToWaiting, ceaseHeld]; repeat' split) <;> simp

/-- R51: BAY_ENABLE touches the bays, the reader, the converter and the notices. -/
theorem enable_frame (b : Bay) (s : State) :
    enable b s = { s with
      bays := (enable b s).bays, reader := (enable b s).reader, converter := (enable b s).converter, notices :=
      (enable b s).notices } := by
  apply State.ext <;> first | rfl | (simp only [enable, identify, enterServing]; repeat' split) <;> simp

/-- R38: a connect touches the bays, the doors and the reader. -/
theorem connect_frame (b : Bay) (s : State) :
    connect b s = { s with
      bays := (connect b s).bays, doors := (connect b s).doors, reader := (connect b s).reader } := by
  apply State.ext <;> first | rfl | (simp only [connect, identify]; repeat' split) <;> simp

/-- R52: ending the conditions of a position touches the conditions and the notices. -/
theorem ceaseAll_frame (b : Bay) (s : State) :
    ceaseAll b s = { s with
      conditions := (ceaseAll b s).conditions, notices := (ceaseAll b s).notices } := by
  apply State.ext <;> first | rfl | (simp only [ceaseAll, ceaseHeld]; repeat' split) <;> simp

/-- R52: a disconnect touches no timer, curve, link or setting. -/
theorem disconnect_frame (b : Bay) (s : State) :
    disconnect b s = { s with
      bays := (disconnect b s).bays, doors := (disconnect b s).doors, reader := (disconnect b s).reader, converter
      := (disconnect b s).converter, table := (disconnect b s).table, conditions := (disconnect b s).conditions,
      heat := (disconnect b s).heat, feeder := (disconnect b s).feeder, notices := (disconnect b s).notices } := by
  apply State.ext <;> first
    | rfl
    | simp only [disconnect, readerLeaves, converterLeaves]
      split
      · simp
        try rw [ceaseAll_frame, depart_frame]
      · rfl

/-- R107: ending the fuel judgements touches the conditions and the notices. -/
theorem endFuelJudgements_frame (b : Bay) (s : State) :
    endFuelJudgements b s = { s with
      conditions := (endFuelJudgements b s).conditions, notices := (endFuelJudgements b s).notices } := by
  apply State.ext <;> first | rfl | simp [endFuelJudgements]

/-- R95: a FUEL result touches the table, the conditions and the notices. -/
theorem fuelResult_frame (b : Bay) (n : Nat) (s : State) :
    fuelResult b n s = { s with
      table := (fuelResult b n s).table, conditions := (fuelResult b n s).conditions, notices := (fuelResult b n
      s).notices } := by
  apply State.ext <;> first | rfl | (simp only [fuelResult, filteredUpdate, report]; repeat' split) <;> simp

/-- R104, R105: a FUEL error touches the table, the conditions and the notices. -/
theorem fuelError_frame (b : Bay) (e : ErrorKind) (s : State) :
    fuelError b e s = { s with
      table := (fuelError b e s).table, conditions := (fuelError b e s).conditions, notices := (fuelError b e
      s).notices } := by
  apply State.ext <;> first | rfl | (simp only [fuelError, report]; repeat' split) <;> simp

/-- R110, R118: a PROBE result touches the table, the conditions and the notices, and what an end of heating touches. -/
theorem probeResult_frame (b : Bay) (n : Nat) (s : State) :
    probeResult b n s = { s with
      table := (probeResult b n s).table, conditions := (probeResult b n s).conditions, heat := (probeResult b n
      s).heat, feeder := (probeResult b n s).feeder, notices := (probeResult b n s).notices } := by
  apply State.ext <;> first
    | rfl
    | simp only [probeResult]
      repeat' split
      all_goals first
        | rfl
        | (rw [endHeating_frame]; simp)
        | simp

/-- R111, R112: a PROBE error touches the table, the conditions and the notices. -/
theorem probeError_frame (b : Bay) (e : ErrorKind) (s : State) :
    probeError b e s = { s with
      table := (probeError b e s).table, conditions := (probeError b e s).conditions, notices := (probeError b e
      s).notices } := by
  apply State.ext <;> first | rfl | (simp only [probeError, report]; repeat' split) <;> simp

/-- R73: a reading handed on touches no converter, bay or door. -/
theorem deliverReading_frame (ch : Channel) (x : Reading) (s : State) :
    deliverReading ch x s = { s with
      table := (deliverReading ch x s).table, conditions := (deliverReading ch x s).conditions, heat :=
      (deliverReading ch x s).heat, feeder := (deliverReading ch x s).feeder, notices := (deliverReading ch x
      s).notices } := by
  apply State.ext <;> first
    | rfl
    | simp only [deliverReading]
      repeat' split
      all_goals first
        | rfl
        | rw [fuelResult_frame]
        | rw [fuelError_frame]
        | rw [probeResult_frame]
        | rw [probeError_frame]

/-- R147: a door acceptance touches the doors, the table and the notices. -/
theorem acceptDoor_frame (b : Bay) (closed : Bool) (s : State) :
    acceptDoor b closed s = { s with
      doors := (acceptDoor b closed s).doors, table := (acceptDoor b closed s).table, notices := (acceptDoor b
      closed s).notices } := by
  apply State.ext <;> first | rfl | (simp only [acceptDoor, acceptOpen, acceptShut, guardEvent, modFigures, mirror, endDoorLong]; repeat' split) <;> simp

/-- R148: the counts of a watched bay touch the doors and the table. -/
theorem doorCounts_frame (b : Bay) (s : State) :
    doorCounts b s = { s with
      doors := (doorCounts b s).doors, table := (doorCounts b s).table } := by
  apply State.ext <;> first | rfl | (simp only [doorCounts, modFigures, mirror]; repeat' split) <;> simp

/-- R149: the judgement of DOOR_LONG touches the doors and the notices. -/
theorem judgeDoorLong_frame (b : Bay) (s : State) :
    judgeDoorLong b s = { s with
      doors := (judgeDoorLong b s).doors, notices := (judgeDoorLong b s).notices } := by
  apply State.ext <;> first | rfl | (simp only [judgeDoorLong]; repeat' split) <;> simp

/-- R148, R149: the round-start work of the door watch touches the doors, the table and the notices. -/
theorem doorRound_frame (b : Bay) (s : State) :
    doorRound b s = { s with
      doors := (doorRound b s).doors, table := (doorRound b s).table, notices := (doorRound b s).notices } := by
  apply State.ext <;> first
    | rfl
    | simp only [doorRound]
      split
      · rw [judgeDoorLong_frame, doorCounts_frame]
      · rfl

/-- R75: the channels of a bay at a round start touch the converter alone. -/
theorem channelRound_frame (b : Bay) (s : State) :
    channelRound b s = { s with
      converter := (channelRound b s).converter } := by
  apply State.ext <;> first | rfl | (simp only [channelRound]; repeat' split) <;> simp

end Sys2Proof.Machine
end

