-- ==== Sys2Proof/Laws/Notices.lean ====
section
/-! SUPPORT. The notice unit's slots, routes and queue under its own operations: each operation is said once, by what it
does to one slot, to the routes and to the queue. -/

namespace Sys2Proof.Machine

/-- The number of a kind names the kind (Table 49). -/
theorem BayKind.index_injective {k l : BayKind} (h : k.index = l.index) : k = l := by
  cases k <;> cases l <;> first | rfl | (exact absurd h (by decide))

/-- R155: two keys share no slot. -/
theorem Key.index_injective {k l : Key} (h : k.index = l.index) : k = l := by
  cases k with
  | feederSag =>
    cases l with
    | feederSag => rfl
    | bay l c =>
      have := congrArg Fin.val h
      simp only [Key.index] at this
      omega
  | bay k b =>
    cases l with
    | feederSag =>
      have := congrArg Fin.val h
      simp only [Key.index] at this
      omega
    | bay l c =>
      have e := congrArg Fin.val h
      simp only [Key.index] at e
      have hk : k = l := BayKind.index_injective (Fin.ext (by omega))
      subst hk
      have hb : b = c := Fin.ext (by omega)
      rw [hb]

/-- Keys are equal exactly when their slots are. -/
theorem Key.index_eq_iff {k l : Key} : k.index = l.index ↔ k = l :=
  ⟨Key.index_injective, fun h => by rw [h]⟩

namespace Notices

/-! ## Putting a slot -/

@[simp] theorem slot_putSlot_same (n : Notices) (k : Key) (v : Slot) : (n.putSlot k v).slot k = v := by
  simp [slot, putSlot]

/-- A slot that was not put. -/
theorem slot_putSlot_other (n : Notices) {k l : Key} (v : Slot) (h : l ≠ k) : (n.putSlot k v).slot l = n.slot l := by
  have : l.index ≠ k.index := fun e => h (Key.index_injective e)
  simpa only [slot, putSlot] using vector_set_other n.slots v this

/-- Any slot after one was put. -/
theorem slot_putSlot (n : Notices) (k l : Key) (v : Slot) :
    (n.putSlot k v).slot l = if l = k then v else n.slot l := by
  by_cases h : l = k
  · subst h; simp
  · simp only [h, if_false]; exact slot_putSlot_other n v h

@[simp] theorem route_putSlot (n : Notices) (k : Key) (v : Slot) (l : Kind) : (n.putSlot k v).route l = n.route l := rfl
@[simp] theorem queue_putSlot (n : Notices) (k : Key) (v : Slot) : (n.putSlot k v).queue = n.queue := rfl
@[simp] theorem attn_putSlot (n : Notices) (k : Key) (v : Slot) : (n.putSlot k v).attn = n.attn := rfl
@[simp] theorem routes_putSlot (n : Notices) (k : Key) (v : Slot) : (n.putSlot k v).routes = n.routes := rfl

@[simp] theorem slot_putRoute (n : Notices) (k : Kind) (r : Route) (l : Key) : (n.putRoute k r).slot l = n.slot l := rfl
@[simp] theorem queue_putRoute (n : Notices) (k : Kind) (r : Route) : (n.putRoute k r).queue = n.queue := rfl
@[simp] theorem attn_putRoute (n : Notices) (k : Kind) (r : Route) : (n.putRoute k r).attn = n.attn := rfl
@[simp] theorem route_putRoute_same (n : Notices) (k : Kind) (r : Route) : (n.putRoute k r).route k = r := by
  simp [route, putRoute]

@[simp] theorem slot_setQueue (n : Notices) (q : List Key) (l : Key) : (n.setQueue q).slot l = n.slot l := rfl
@[simp] theorem queue_setQueue (n : Notices) (q : List Key) : (n.setQueue q).queue = q := rfl
@[simp] theorem attn_setQueue (n : Notices) (q : List Key) : (n.setQueue q).attn = !q.isEmpty := rfl
@[simp] theorem route_setQueue (n : Notices) (q : List Key) (l : Kind) : (n.setQueue q).route l = n.route l := rfl
@[simp] theorem routes_setQueue (n : Notices) (q : List Key) : (n.setQueue q).routes = n.routes := rfl

/-! ## Entering the queue (R157) -/

/-- R157: entering the queue changes no slot. -/
@[simp] theorem slot_enter (n : Notices) (k l : Key) : (n.enter k).slot l = n.slot l := by
  unfold enter; split <;> rfl

/-- R157: entering the queue changes no route. -/
@[simp] theorem route_enter (n : Notices) (k : Key) (l : Kind) : (n.enter k).route l = n.route l := by
  unfold enter; split <;> rfl

/-- R157: entering the queue changes no route of the table. -/
@[simp] theorem routes_enter (n : Notices) (k : Key) : (n.enter k).routes = n.routes := by
  unfold enter; split <;> rfl

/-- R157: the queue gains the one key. -/
theorem mem_queue_enter (n : Notices) (k j : Key) : j ∈ (n.enter k).queue ↔ j = k ∨ j ∈ n.queue := by
  unfold enter
  split
  · simp only [queue_setQueue, List.mem_append, List.mem_cons]
    constructor
    · rintro (h | h | h)
      · exact .inr ((List.takeWhile_sublist _).subset h)
      · exact .inl h
      · exact .inr ((List.dropWhile_sublist _).subset h)
    · rintro (h | h)
      · exact .inr (.inl h)
      · rw [← List.takeWhile_append_dropWhile (p := n.isHigh) (l := n.queue), List.mem_append] at h
        rcases h with h | h
        · exact .inl h
        · exact .inr (.inr h)
  · simp only [queue_setQueue, List.mem_append, List.mem_singleton, or_comm]

/-- R157: the queue is one longer. -/
theorem length_queue_enter (n : Notices) (k : Key) : (n.enter k).queue.length = n.queue.length + 1 := by
  unfold enter
  split
  · have h := congrArg List.length (List.takeWhile_append_dropWhile (p := n.isHigh) (l := n.queue))
    simp only [List.length_append] at h
    simp only [queue_setQueue, List.length_append, List.length_cons]
    omega
  · simp only [queue_setQueue, List.length_append, List.length_cons, List.length_nil]

/-- R166: a key has entered, so ATTN is asserted. -/
@[simp] theorem attn_enter (n : Notices) (k : Key) : (n.enter k).attn = true := by
  unfold enter; split <;> simp

/-! ## What no report changes (R156, R166) -/

@[simp] theorem routes_markQueued (n : Notices) (k : Key) : (n.markQueued k).routes = n.routes := by
  unfold markQueued; split <;> rfl

@[simp] theorem queue_markQueued (n : Notices) (k : Key) : (n.markQueued k).queue = n.queue := by
  unfold markQueued; split <;> rfl

@[simp] theorem attn_markQueued (n : Notices) (k : Key) : (n.markQueued k).attn = n.attn := by
  unfold markQueued; split <;> rfl

/-- R158: taking a waiting key changes no route. -/
@[simp] theorem routes_refill (now : Round) (n : Notices) : (n.refill now).routes = n.routes := by
  unfold refill; split <;> simp

@[simp] theorem routes_leaveQueue (now : Round) (k : Key) (n : Notices) : (n.leaveQueue now k).routes = n.routes := by
  simp [leaveQueue]

@[simp] theorem routes_becomeRaised (now : Round) (k : Key) (c : Option Nat) (n : Notices) :
    (n.becomeRaised now k c).routes = n.routes := by
  simp only [becomeRaised]; split <;> simp

@[simp] theorem routes_withdraw (now : Round) (k : Key) (n : Notices) : (n.withdraw now k).routes = n.routes := by
  unfold withdraw; split <;> simp

/-- R159: a raise report changes no route. -/
@[simp] theorem routes_raise (now : Round) (k : Key) (t : Option TrailerNo) (v : Option NoticeValue) (n : Notices) :
    (n.raise now k t v).routes = n.routes := by
  unfold raise
  split
  · rfl
  · split <;> simp [store]

/-- R160: a present report changes no route. -/
@[simp] theorem routes_present (now : Round) (k : Key) (t : Option TrailerNo) (v : Option NoticeValue) (n : Notices) :
    (n.present now k t v).routes = n.routes := by
  simp only [present]
  split <;> (try split) <;> simp

/-- R161: a cease report changes no route. -/
@[simp] theorem routes_cease (now : Round) (k : Key) (n : Notices) : (n.cease now k).routes = n.routes := by
  simp only [cease]
  split <;> simp

end Notices

end Sys2Proof.Machine
end

