-- ==== Sys2Proof/Laws/Reader.lean ====
section
/-! SUPPORT. The tag reader in time: where a row brings the read of the head, what each event touches, and when the time
base brings one, each said once. -/

namespace Sys2Proof.Machine

/-! ## The instant of the read -/

/-- A read brought to an instant stands there, or where it stood further on. -/
@[simp] theorem Reader.bringTo_instant (now at' : Nat) (r : Reader) :
    (r.bringTo now at').instant now = max (r.instant now) at' := by
  simp only [Reader.instant, Reader.bringTo]; omega

/-- A read that has come to an instant stays. -/
theorem Reader.bringTo_of_le {now at' : Nat} {r : Reader} (h : at' ≤ r.instant now) : r.bringTo now at' = r := by
  simp only [Reader.instant] at h
  simp only [Reader.bringTo, Nat.max_eq_left (show at' - now ≤ r.ahead by omega)]

@[simp] theorem Reader.bringTo_state (now at' : Nat) (r : Reader) : (r.bringTo now at').state = r.state := rfl
@[simp] theorem Reader.bringTo_queue (now at' : Nat) (r : Reader) : (r.bringTo now at').queue = r.queue := rfl
@[simp] theorem Reader.wakeEnd_queue (now : Nat) (r : Reader) : (r.wakeEnd now).queue = r.queue := by
  unfold Reader.wakeEnd; split <;> rfl
@[simp] theorem Reader.presenceSeen_queue (now : Nat) (r : Reader) : (r.presenceSeen now).queue = r.queue := by
  unfold Reader.presenceSeen; split <;> rfl
@[simp] theorem Reader.tick_queue (now : Nat) (r : Reader) : (r.tick now).queue = r.queue := by
  unfold Reader.tick; split <;> rfl
@[simp] theorem Reader.storeBit_queue (high : Bool) (r : Reader) : (r.storeBit high).queue = r.queue := by
  unfold Reader.storeBit; repeat' split
  all_goals rfl
@[simp] theorem Reader.spacingEnd_queue (now : Nat) (r : Reader) : (r.spacingEnd now).queue = r.queue := by
  unfold Reader.spacingEnd; split <;> rfl
@[simp] theorem Reader.tick_ahead (now : Nat) (r : Reader) : (r.tick now).ahead = r.ahead := by
  unfold Reader.tick; split <;> rfl
@[simp] theorem Reader.storeBit_ahead (high : Bool) (r : Reader) : (r.storeBit high).ahead = r.ahead := by
  unfold Reader.storeBit; repeat' split
  all_goals rfl

/-! ## What the events touch -/

/-- A level brought to the head's line touches what stands outside. -/
theorem bringHeadLine_frame (high : Bool) (s : State) :
    bringHeadLine high s = { s with outside := (bringHeadLine high s).outside } := by
  unfold bringHeadLine; split <;> rfl

/-- Of what stands outside, the level at the head's tag line alone. -/
theorem bringHeadLine_outside (high : Bool) (s : State) :
    (bringHeadLine high s).outside
      = { s.outside with tags := match s.reader.queue.head? with
          | some b => s.outside.tags.set b.val high
          | none => s.outside.tags } := by
  unfold bringHeadLine; split <;> simp_all

/-- R58: presence touches the reader and what stands outside. -/
theorem presenceSeen_frame (s : State) :
    presenceSeen s = { s with reader := (presenceSeen s).reader, outside := (presenceSeen s).outside } := by
  unfold presenceSeen; split
  · rw [bringHeadLine_frame]; rfl
  · rfl

/-- R59: a sample touches the reader and what stands outside. -/
theorem bitSlotSample_frame (high : Bool) (s : State) :
    bitSlotSample high s
      = { s with reader := (bitSlotSample high s).reader, outside := (bitSlotSample high s).outside } := by
  unfold bitSlotSample; split
  · rw [bringHeadLine_frame]; rfl
  · rfl

/-- R63: a delivery touches the reader, and what a match and a hold touch. -/
theorem deliverOutcome_frame (o : Option TrailerNo) (s : State) :
    deliverOutcome o s = { s with
      bays := (deliverOutcome o s).bays, reader := (deliverOutcome o s).reader,
      converter := (deliverOutcome o s).converter, table := (deliverOutcome o s).table,
      notices := (deliverOutcome o s).notices } := by
  unfold deliverOutcome
  cases s.reader.queue.head? with
  | none => rfl
  | some b => cases o with
    | none => dsimp only; rw [hold_frame]; rfl
    | some n => dsimp only; rw [matchNumber_frame]; rfl

/-- R63: an attempt that fails touches what a delivery touches. -/
theorem attemptFails_frame (n start : Nat) (s : State) :
    attemptFails n start s = { s with
      bays := (attemptFails n start s).bays, reader := (attemptFails n start s).reader,
      converter := (attemptFails n start s).converter, table := (attemptFails n start s).table,
      notices := (attemptFails n start s).notices } := by
  unfold attemptFails; split
  · exact deliverOutcome_frame none s
  · rfl

/-! ## The reader phase by phase -/

/-- R58: what is due in WAKE. -/
theorem Reader.due_wake {r : Reader} {n start : Nat} (h : r.state = .attempt n start .wake) (now : Nat) (high : Bool) :
    r.due now high = if start + 500 ≤ r.instant now then some .wakeEnd else none := by
  unfold Reader.due; rw [h]; rfl

/-- R58: what is due in PRESENCE. -/
theorem Reader.due_presence {r : Reader} {n start : Nat} (h : r.state = .attempt n start .presence) (now : Nat)
    (high : Bool) :
    r.due now high =
      if start + 600 ≤ r.instant now ∧ r.instant now ≤ start + 900 ∧ high = false then some .presenceSeen
      else if start + 900 ≤ r.instant now then some .presenceWindowClose else none := by
  unfold Reader.due Reader.looks Reader.recognises
  simp only [h]
  show (if (decide (start + 600 ≤ r.instant now) && decide (r.instant now ≤ start + 900) && !high) = true
    then _ else if start + 900 ≤ r.instant now then _ else _) = _
  simp only [Bool.and_eq_true, decide_eq_true_eq, Bool.not_eq_true', and_assoc]

/-- R59, R62: what is due in BITS. -/
theorem Reader.due_bits {r : Reader} {n start began slot : Nat} {count : BitVec 3} {shift : Byte} {bytes : List Byte}
    (h : r.state = .attempt n start (.bits began slot count shift bytes)) (now : Nat) (high : Bool) :
    r.due now high =
      if bytes.length < 5 then
        if began + 250 * (8 * bytes.length + count.toNat) + 60 ≤ r.instant now then some (.bitSlotSample high) else none
      else if began + 10000 ≤ r.instant now then some .attemptJudged else none := by
  unfold Reader.due Reader.looks Reader.nextSample
  simp only [h]
  by_cases l : 5 ≤ bytes.length
  · rw [if_pos l, if_neg (Nat.not_lt.2 l)]
    show (if 5 ≤ bytes.length ∧ began + 10000 ≤ r.instant now then _ else _) = _
    simp only [l, true_and]
  · rw [if_neg l, if_pos (Nat.not_le.1 l)]
    show (if decide (began + 250 * (8 * bytes.length + count.toNat) + 60 ≤ r.instant now) = true then _ else
      if 5 ≤ bytes.length ∧ began + 10000 ≤ r.instant now then _ else _) = _
    simp only [l, false_and, if_false, decide_eq_true_eq]

/-- R63: what is due in SPACING. -/
theorem Reader.due_spacing {r : Reader} {n start : Nat} (h : r.state = .spacing n start) (now : Nat) (high : Bool) :
    r.due now high = if start + 50000 ≤ r.instant now then some .spacingEnd else none := by
  unfold Reader.due; rw [h]; rfl

/-- An idle reader brings nothing. -/
theorem Reader.due_idle {r : Reader} (h : r.state = .idle) (now : Nat) (high : Bool) : r.due now high = none := by
  unfold Reader.due; rw [h]

/-- Phase BITS in a state a run reaches. -/
theorem ReaderInv.of_bits {s : State} {n start began slot : Nat} {count : BitVec 3} {shift : Byte} {bytes : List Byte}
    (hs : s.reader.state = .attempt n start (.bits began slot count shift bytes)) :
    ReaderInv s ↔ 1 ≤ n ∧ n ≤ 3 ∧ start + 600 ≤ began ∧ began ≤ start + 900 ∧ began ≤ s.reader.instant s.timer.timeUs
      ∧ slot = min 39 ((s.reader.instant s.timer.timeUs - began) / 250)
      ∧ ((bytes.length < 5
            ∧ s.reader.instant s.timer.timeUs ≤ began + 250 * (8 * bytes.length + count.toNat) + 60)
          ∨ (bytes.length = 5 ∧ count = 0 ∧ s.reader.instant s.timer.timeUs ≤ began + 10000)) := by
  simp only [ReaderInv, hs]

/-! ## When the time base brings an event -/

/-- R58, R59, R65: in a state a run reaches, the part looks at the head's line only in the presence window and at the
sample instant of a slot. -/
theorem Reader.looks_at_its_instants {s : State} (h : ReaderInv s) (l : s.reader.looks s.timer.timeUs = true) :
    (∃ n start, s.reader.state = .attempt n start .presence
        ∧ start + 600 ≤ s.reader.instant s.timer.timeUs ∧ s.reader.instant s.timer.timeUs ≤ start + 900)
      ∨ ∃ n start began slot count shift bytes,
          s.reader.state = .attempt n start (.bits began slot count shift bytes)
            ∧ s.reader.instant s.timer.timeUs = began + 250 * (8 * bytes.length + count.toNat) + 60 := by
  unfold ReaderInv at h
  unfold Reader.looks at l
  cases hs : s.reader.state with
  | idle => simp [hs] at l
  | spacing n start => simp [hs] at l
  | attempt n start ph =>
    cases ph with
    | wake => simp [hs] at l
    | presence =>
      simp only [hs, Reader.recognises, Bool.and_eq_true] at l
      exact .inl ⟨n, start, rfl, of_decide_eq_true l.1, of_decide_eq_true l.2⟩
    | bits began slot count shift bytes =>
      simp only [hs, Reader.nextSample] at l h
      split at l
      · simp at l
      · simp only [Option.any_some, decide_eq_true_eq, Reader.sampleInstant, Config.slotLength,
          Config.slotSample] at l
        refine .inr ⟨n, start, began, slot, count, shift, bytes, rfl, ?_⟩
        rcases h.2.2.2.2.2.2 with h | h <;> omega

/-- R55, R58, R59, R63: where nothing of the reader is due, a microsecond passes none of its instants. -/
theorem ReaderInv.tick {s t : State} (h : ReaderInv s) (hn : readerEvent s = none)
    (ht : t.timer.timeUs = s.timer.timeUs + 1) (hr : t.reader = s.reader.tick t.timer.timeUs) : ReaderInv t := by
  unfold readerEvent at hn
  have hi : t.reader.instant t.timer.timeUs = s.reader.instant s.timer.timeUs + 1 := by
    rw [hr, Reader.instant, Reader.tick_ahead, ht, Reader.instant]; omega
  cases hs : s.reader.state with
  | idle =>
    have e : t.reader = s.reader := by rw [hr, Reader.tick, hs]
    simpa [ReaderInv, e, hs] using h
  | spacing n start =>
    have e : t.reader = s.reader := by rw [hr, Reader.tick, hs]
    simp only [ReaderInv, hs] at h
    simp only [Reader.due_spacing hs, ite_eq_right_iff, reduceCtorEq, imp_false, Nat.not_le] at hn
    simp only [ReaderInv, hi]
    simp only [e, hs]
    omega
  | attempt n start ph =>
    cases ph with
    | wake =>
      have e : t.reader = s.reader := by rw [hr, Reader.tick, hs]
      simp only [ReaderInv, hs] at h
      simp only [Reader.due_wake hs, ite_eq_right_iff, reduceCtorEq, imp_false, Nat.not_le] at hn
      simp only [ReaderInv, hi]
      simp only [e, hs]
      omega
    | presence =>
      have e : t.reader = s.reader := by rw [hr, Reader.tick, hs]
      simp only [ReaderInv, hs] at h
      rw [Reader.due_presence hs] at hn
      have hl : s.reader.instant s.timer.timeUs < start + 900 := by
        by_contra c
        split at hn <;> simp at hn
        omega
      simp only [ReaderInv, hi]
      simp only [e, hs]
      omega
    | bits began slot count shift bytes =>
      have e : t.reader.state = .attempt n start (.bits began
          (min 39 ((s.reader.instant s.timer.timeUs + 1 - began) / 250)) count shift bytes) := by
        rw [← hi, hr, Reader.instant, Reader.tick_ahead]
        simp only [Reader.tick, hs]
        rfl
      rw [ReaderInv.of_bits hs] at h
      rw [Reader.due_bits hs] at hn
      rw [ReaderInv.of_bits e, hi]
      obtain ⟨h1, h3, hb, hb', hbi, -, hq⟩ := h
      refine ⟨h1, h3, hb, hb', by omega, rfl, ?_⟩
      rcases hq with ⟨l, hq⟩ | ⟨l, c, hq⟩
      · simp only [l, if_true, ite_eq_right_iff, reduceCtorEq, imp_false, Nat.not_le] at hn
        exact .inl ⟨l, by omega⟩
      · simp only [l, lt_irrefl, if_false, ite_eq_right_iff, reduceCtorEq, imp_false, Nat.not_le] at hn
        exact .inr ⟨l, c, by omega⟩

end Sys2Proof.Machine
end

