-- ==== Sys2Proof/Laws/Timer.lean ====
section
/-! SUPPORT. The points of a round and the counters of the converter: which point comes next, what each operation over them
can touch, said once. -/

namespace Sys2Proof.Machine

/-! ## Points -/

/-- The point that was put. -/
@[simp] theorem Points.get_put_same (p : Point) (v : PointState) (x : Points) : (x.put p v).get p = v := by
  cases p <;> rfl

/-- The points that were not put. -/
theorem Points.get_put_other {p q : Point} (v : PointState) (x : Points) (h : q ≠ p) : (x.put p v).get q = x.get q := by
  cases p <;> cases q <;> first | rfl | exact absurd rfl h

/-- Any point after one was put. -/
theorem Points.get_put (p q : Point) (v : PointState) (x : Points) :
    (x.put p v).get q = if q = p then v else x.get q := by
  by_cases h : q = p
  · subst h; simp
  · simp only [h, if_false]; exact Points.get_put_other v x h

/-- A point that has still to come. -/
theorem Timer.awaits_iff (t : Timer) (p : Point) : t.awaits p = true ↔ t.points.get p = .outstanding := by
  simp [Timer.awaits]

/-- A point at the start of a round. -/
theorem Timer.advance_get (t : Timer) (p : Point) : t.advance.points.get p = (t.points.get p).renew := by
  cases p <;> rfl

/-- A point lies ahead when it has still to come before the limit. -/
theorem Timer.ahead_eq_some {limit : Nat} {t : Timer} {p q : Point} :
    t.ahead limit p = some q ↔ q = p ∧ t.awaits p = true ∧ t.inForce.pointAt p < limit := by
  simp only [Timer.ahead, Bool.and_eq_true, decide_eq_true_eq, Option.ite_none_right_eq_some, Option.some.injEq]
  constructor
  · rintro ⟨⟨h, l⟩, e⟩; exact ⟨e.symm, h, l⟩
  · rintro ⟨e, h, l⟩; exact ⟨⟨h, l⟩, e.symm⟩

/-- The earlier of two points is one of the two. -/
theorem Timer.earlier_mem {t : Timer} {a b : Option Point} {p : Point} (h : t.earlier a b = some p) :
    a = some p ∨ b = some p := by
  cases a <;> cases b <;> simp only [Timer.earlier] at h
  · exact .inr h
  · exact .inr h
  · exact .inl h
  · split at h
    · exact .inr h
    · exact .inl h

/-- The earlier of two points lies no further than either. -/
theorem Timer.earlier_le {t : Timer} {a b : Option Point} {p q : Point} (h : t.earlier a b = some p)
    (hq : a = some q ∨ b = some q) : t.inForce.pointAt p ≤ t.inForce.pointAt q := by
  cases a <;> cases b <;> simp only [Timer.earlier, reduceCtorEq, Option.some.injEq, false_or, or_false] at h hq
  · subst h hq; exact Nat.le_refl _
  · subst h hq; exact Nat.le_refl _
  · split at h <;> cases h <;> rcases hq with rfl | rfl <;> omega

/-- Neither of two points is there. -/
theorem Timer.earlier_eq_none {t : Timer} {a b : Option Point} : t.earlier a b = none ↔ a = none ∧ b = none := by
  cases a <;> cases b <;> simp only [Timer.earlier, reduceCtorEq, and_self, and_false, false_and]
  split <;> simp

/-- The next point has still to come, lies before the limit, and no point that has still to come lies before it. -/
theorem Timer.nextPoint_some {limit : Nat} {t : Timer} {p : Point} (h : t.nextPoint limit = some p) :
    t.awaits p = true ∧ t.inForce.pointAt p < limit
      ∧ ∀ q, t.awaits q = true → t.inForce.pointAt p ≤ t.inForce.pointAt q := by
  have hp : t.awaits p = true ∧ t.inForce.pointAt p < limit := by
    rcases Timer.earlier_mem h with h | h
    · rcases Timer.earlier_mem h with h | h <;> (obtain ⟨rfl, hp⟩ := Timer.ahead_eq_some.1 h; exact hp)
    · obtain ⟨rfl, hp⟩ := Timer.ahead_eq_some.1 h; exact hp
  refine ⟨hp.1, hp.2, fun q hq => ?_⟩
  by_cases hl : t.inForce.pointAt q < limit
  · have hq' : t.ahead limit q = some q := Timer.ahead_eq_some.2 ⟨rfl, hq, hl⟩
    cases q with
    | sweep => exact Timer.earlier_le h (.inr hq')
    | check =>
      cases hf : t.earlier (t.ahead limit .check) (t.ahead limit .grant) with
      | none => rw [(Timer.earlier_eq_none.1 hf).1] at hq'; exact absurd hq' (by simp)
      | some r => exact Nat.le_trans (Timer.earlier_le h (.inl hf)) (Timer.earlier_le hf (.inl hq'))
    | grant =>
      cases hf : t.earlier (t.ahead limit .check) (t.ahead limit .grant) with
      | none => rw [(Timer.earlier_eq_none.1 hf).2] at hq'; exact absurd hq' (by simp)
      | some r => exact Nat.le_trans (Timer.earlier_le h (.inl hf)) (Timer.earlier_le hf (.inr hq'))
  · omega

/-- No point comes next exactly when none that has still to come lies before the limit. -/
theorem Timer.nextPoint_none {limit : Nat} {t : Timer} :
    t.nextPoint limit = none ↔ ∀ q, t.awaits q = true → limit ≤ t.inForce.pointAt q := by
  constructor
  · intro h q hq
    by_contra hl
    have hq' : t.ahead limit q = some q := Timer.ahead_eq_some.2 ⟨rfl, hq, by omega⟩
    obtain ⟨hcg, hs⟩ := Timer.earlier_eq_none.1 h
    obtain ⟨hc, hg⟩ := Timer.earlier_eq_none.1 hcg
    cases q <;> simp_all
  · intro h
    cases hn : t.nextPoint limit with
    | none => rfl
    | some p =>
      have := Timer.nextPoint_some hn
      exact absurd this.2.1 (Nat.not_lt.2 (h p this.1))

/-! ## What the work of a point touches -/

/-- R131 to R133: the check point touches the feeder, the notices, and of a shed record the table and the permits. -/
theorem checkPoint_frame (s : State) :
    checkPoint s = { s with
      table := (checkPoint s).table, heat := (checkPoint s).heat, feeder := (checkPoint s).feeder,
      notices := (checkPoint s).notices } := by
  apply State.ext <;> first
    | rfl
    | (simp only [checkPoint, sagVerdict, clearVerdict]
       repeat' split
       all_goals first
         | rfl
         | (simp only [State.modFeeder_timer, State.modFeeder_bays, State.modFeeder_doors, State.modFeeder_reader,
              State.modFeeder_converter, State.modFeeder_curves, State.modFeeder_conditions, State.modFeeder_link,
              State.modFeeder_powerGoodMs, State.modFeeder_guard, State.modFeeder_settleRounds,
              State.modFeeder_smoothShift, State.modFeeder_outside, State.modFeeder_resetting,
              State.modFeeder_resetCause, State.modFeeder_pending, State.modNotices_timer, State.modNotices_bays,
              State.modNotices_doors, State.modNotices_reader, State.modNotices_converter, State.modNotices_curves,
              State.modNotices_conditions, State.modNotices_link, State.modNotices_powerGoodMs, State.modNotices_guard,
              State.modNotices_settleRounds, State.modNotices_smoothShift, State.modNotices_outside,
              State.modNotices_resetting, State.modNotices_resetCause, State.modNotices_pending]
            rw [heatingToWaiting_frame]
            rfl))

/-- R116, R137: a grant touches the feeder, the table and the permits. -/
theorem grantAt_frame (b : Bay) (c : DefrostClass) (load : Nat) (s : State) :
    grantAt b c load s = { s with
      table := (grantAt b c load s).table, heat := (grantAt b c load s).heat, feeder := (grantAt b c load s).feeder } := by
  apply State.ext <;> first | rfl | simp [grantAt]

/-- R137: so does the whole walk. -/
theorem grantWalk_frame (l : List Bay) (s : State) :
    grantWalk l s = { s with
      table := (grantWalk l s).table, heat := (grantWalk l s).heat, feeder := (grantWalk l s).feeder } := by
  induction l generalizing s with
  | nil => rfl
  | cons b rest ih =>
    unfold grantWalk
    split
    · split
      · exact ih s
      · split
        · rw [ih, grantAt_frame]
        · rfl
    · exact ih s

/-- R27: what a point's work leaves alone. -/
theorem pointWork_frame (p : Point) (s : State) :
    pointWork p s = { s with
      converter := (pointWork p s).converter, table := (pointWork p s).table, heat := (pointWork p s).heat,
      feeder := (pointWork p s).feeder, notices := (pointWork p s).notices } := by
  cases p
  · show checkPoint s = _; rw [pointWork, checkPoint_frame]
  · show grantWalk _ s = _; rw [pointWork, grantPoint, grantWalk_frame]
  · rfl

/-- R27: a point's work touches no timer. -/
@[simp] theorem pointWork_timer (p : Point) (s : State) : (pointWork p s).timer = s.timer := by rw [pointWork_frame]

/-- R27: the timer at a point. -/
@[simp] theorem takePoint_timer (p : Point) (s : State) : (takePoint p s).timer = s.timer.atPoint p := by
  simp [takePoint]

/-! ## The converter's counters -/

/-- R68 to R70: running touches the stage, the settling and the part of a cycle gone. -/
theorem Converter.run_frame (o : Outside) (n : Nat) (c : Converter) :
    c.run o n = { c with stage := (c.run o n).stage, settle := (c.run o n).settle, phase := (c.run o n).phase } := by
  unfold Converter.run; split <;> rfl

/-- R68 to R70: running stays in the stage and with the channel. -/
theorem Converter.run_channel (o : Outside) (n : Nat) (c : Converter) : (c.run o n).stage.channel = c.stage.channel := by
  unfold Converter.run; split <;> simp_all [Stage.channel]

/-- R67: no network is without resistance. -/
theorem networkOf_pos (k : ChannelKind) (x : ChannelInput) : 0 < networkOf k x := by
  cases x <;> cases k <;> simp only [networkOf, Config.fuelSeriesMilliohms] <;> omega

/-- R67: on a network as large as the reference resistor the oscillator runs at the reference frequency. -/
theorem Outside.onNetwork_of_reference {o : Outside} {ch : Channel} (h : o.network ch = referenceResistor ch.kind) :
    (o.onNetwork ch).num * (o.onReference ch).den = (o.onReference ch).num * (o.onNetwork ch).den := by
  simp only [Outside.onNetwork, Outside.onReference, h]
  ac_rfl

/-- A network that stays keeps the part of a cycle gone. -/
theorem Converter.onNewNetwork_self {r : Nat} (h : 0 < r) (c : Converter) : c.onNewNetwork r r = c := by
  simp only [Converter.onNewNetwork, Nat.mul_div_cancel _ h]

/-- R69, R70: an oscillator that has come to the ticks counted has made the cycles, and no tick sooner. -/
theorem ticksFor_spec {x : Oscillation} {phase cycles : Nat} (hn : x.num ≠ 0) (hp : phase < x.den) (hc : cycles ≠ 0)
    (k : Nat) : x.ticksFor phase cycles ≤ k ↔ cycles ≤ x.cyclesIn phase k := by
  have hd : 0 < x.den := by omega
  have hle : x.den ≤ cycles * x.den := Nat.le_mul_of_pos_left _ (by omega)
  simp only [Oscillation.ticksFor, hn, hc, if_false, Oscillation.cyclesIn]
  rw [Nat.le_div_iff_mul_le hd, ← Nat.lt_succ_iff, Nat.div_lt_iff_lt_mul (by omega), Nat.succ_mul]
  omega

/-! ## What the time base brings -/

/-- R35: the line sample tick is due from its instant on. -/
theorem tickEvent_eq_none {s : State} : tickEvent s = none ↔ s.timer.timeUs < s.timer.tickUs := by
  unfold tickEvent; split <;> simp <;> omega

end Sys2Proof.Machine
end

