-- ==== Sys2Proof/Tests/Slice0.lean ====
section
/-! SUPPORT. Tests of the model: an ill-formed term for each check, the manual's worked examples as single steps on small
states, and for each statement a state and operands that meet its hypotheses, clause by clause. -/

namespace Sys2Proof.Tests

set_option Elab.async false

open Sys2Proof Sys2Proof.Machine

/-! ## Small states -/

/-- The state a command leaves. -/
def after (c : Instr) (s : State) : State :=
  match exec c s with
  | .next t => t
  | .fault _ => s
  | .refused _ => s

/-- The state a step on an empty queue leaves. -/
def idleAfter (s : State) : State :=
  match step s with
  | .next t => t
  | .fault _ => s
  | .refused _ => s

/-- The part in its first round, its three points still to come. -/
def base : State :=
  { State.reset with
    resetting := none
    timer := { State.reset.timer with
      number := 0, remaining := 1000, points := { check := .outstanding, grant := .outstanding, sweep := .outstanding } } }

/-- The state with one point alone still to come. -/
def only (p : Point) (s : State) : State := s.modTimer (fun t => { t with points := Points.allTaken.put p .outstanding })

/-- The state with every point come. -/
def noPoint (s : State) : State := s.modTimer (fun t => { t with points := .allTaken })

/-- The part while it sends an answer. -/
def sending : State := { base with link := { base.link with transmitter := .sending [0x5A] } }

/-- A BOOKED record of trailer 7. -/
def record7 : Record := Record.create 7 .booked Settings.default

/-- Trailer 7 BOOKED in slot 0. -/
def booked : State := base.putSlot 0 (some record7)

/-- The record of trailer 7 parked at bay 3. -/
def parked7 : Record := record7.park 3 0 .unwatched

/-- A bay SERVING the record `r` in a slot. -/
def servingAt (b : Bay) (i : SlotIx) (r : Record) (s : State) : State :=
  (s.putSlot i (some r)).modBay b (fun x =>
    { x with state := .serving, connected := true, powerOn := true, wait := some 200, ref := some i })

/-- Bay 3 SERVING the record `r` in slot 0. -/
def serving (r : Record) : State := servingAt 3 0 r base

/-- The record of trailer 7 with a filtered level below its baseline. -/
def fueled7 : Record :=
  { parked7 with fuel := { parked7.fuel with filtered := some 640, baseline := some 700, lastResistance := some 2342 } }

/-- Trailer 7 parked at bay 3. -/
def parked : State := serving parked7

/-- Trailer 7 parked at bay 3 with the defrost figures changed. -/
def defrosting (f : DefrostFigures → DefrostFigures) : State := serving (parked7.modDefrost f)

/-- Trailer 7 HEATING at bay 3 with its grant of load 2. -/
def heating : State :=
  (((defrosting (fun d => { d with state := .heating .normal, heatRounds := 24 })).setHeat 3 true).modFeeder
    (fun f => { f with units := 8, grants := [{ bay := 3, load := 2, round := 0 }] })).modDoor 3
      (fun d => { d with figures := { d.figures with state := .shut } })

/-- Bay 3 CONNECTED in a bay state. -/
def bayIn (st : BayState) : State := base.modBay 3 (fun x => { x with state := st, connected := true })

/-- Every slot of the table taken. -/
def fullTable : State :=
  { base with table := Vector.ofFn (fun i : SlotIx => some (Record.create (BitVec.ofNat 32 (i.val + 100)) .booked .default)) }

/-- The reader at bay 3 in a state. -/
def reading (st : ReaderState) : State :=
  { bayIn .identifying with reader := { state := st, queue := [3], ahead := 0 } }

/-- The reader at bay 3 in a state at an instant, with the tag line at a level. -/
def readingAt (now : Nat) (high : Bool) (st : ReaderState) : State :=
  ((reading st).modTimer (fun t => { t with timeUs := now, tickUs := 60000 })).setTagLine 3 high

/-- The converter in a stage, with the sweep open and nothing in its list. -/
def converting (st : Stage) : State := { parked with converter := { parked.converter with stage := st, sweep := some [] } }

/-- A ready state takes commands at once. -/
theorem ready_base : base.ready := ⟨rfl, rfl⟩

/-- A booked trailer leaves the link ready. -/
theorem ready_booked : booked.ready := ⟨rfl, rfl⟩

/-- A parked trailer leaves the link ready. -/
theorem ready_parked : parked.ready := ⟨rfl, rfl⟩

/-! ## Ill-formed terms, one for each check -/

/-- Settings with no bit given. -/
def noSettings : SettingsArg :=
  { mask := 0, fuelCurve := 0, probeCurve := 0, heaterLoad := 0, interval := 0, clockMode := 0, termination := 0,
    maxHeat := 0, drip := 0, lowFuel := 0, dropThreshold := 0, doorRunning := 0, doorStopped := 0 }

theorem test_wellFormed_settings : (Instr.book 1 noSettings).wellFormed = true := by decide
theorem test_illFormed_fuelCurve : (Instr.book 1 { noSettings with fuelCurve := 1 }).wellFormed = false := by decide
theorem test_illFormed_probeCurve : (Instr.amend 1 { noSettings with probeCurve := 1 }).wellFormed = false := by decide
theorem test_illFormed_heaterLoad : (Instr.book 1 { noSettings with heaterLoad := 1 }).wellFormed = false := by decide
theorem test_illFormed_interval : (Instr.book 1 { noSettings with interval := 1 }).wellFormed = false := by decide
theorem test_illFormed_clockMode : (Instr.book 1 { noSettings with clockMode := 1 }).wellFormed = false := by decide
theorem test_illFormed_termination : (Instr.book 1 { noSettings with termination := 1 }).wellFormed = false := by decide
theorem test_illFormed_maxHeat : (Instr.book 1 { noSettings with maxHeat := 1 }).wellFormed = false := by decide
theorem test_illFormed_drip : (Instr.book 1 { noSettings with drip := 1 }).wellFormed = false := by decide
theorem test_illFormed_lowFuel : (Instr.book 1 { noSettings with lowFuel := 1 }).wellFormed = false := by decide
theorem test_illFormed_dropThreshold : (Instr.book 1 { noSettings with dropThreshold := 1 }).wellFormed = false := by
  decide
theorem test_illFormed_doorRunning : (Instr.book 1 { noSettings with doorRunning := 1 }).wellFormed = false := by decide
theorem test_illFormed_doorStopped : (Instr.book 1 { noSettings with doorStopped := 1 }).wellFormed = false := by decide
theorem test_illFormed_points : (Instr.curveWrite 0 0 42 (List.replicate 42 (1, 1))).wellFormed = false := by decide
theorem test_illFormed_emptyFrame : (Instr.frameAccepted [] 0).wellFormed = false := by decide
theorem test_illFormed_longFrame : (Instr.frameAccepted (List.replicate 251 0) 0).wellFormed = false := by
  decide +kernel
theorem test_illFormed_roundOrder : (Instr.roundStart [3, 3]).wellFormed = false := by decide
theorem test_illFormed_sampleOrder :
    (Instr.lineSampleTick (Vector.replicate 16 ⟨true, true, true, true, true⟩) [0, 1, 0]).wellFormed = false := by
  decide +kernel

/-! ## Worked examples of the manual -/

/-- R170: the CHECK of the nine digits. -/
theorem test_checkOfNineDigits :
    crc [0x31, 0x32, 0x33, 0x34, 0x35, 0x36, 0x37, 0x38, 0x39] = 0x29B1 := by decide +kernel

/-- Table 26. -/
theorem test_table26 :
    sensorReading .fuel 15 = .error .opened ∧ sensorReading .fuel 16 = .error .high
      ∧ sensorReading .fuel 1023 = .error .high ∧ sensorReading .fuel 1024 = .resistance 30000
      ∧ sensorReading .fuel 3317 = .resistance 2349 ∧ sensorReading .fuel 4095 = .resistance 2
      ∧ sensorReading .fuel 4096 = .resistance 0 ∧ sensorReading .fuel 1048574 = .resistance 0
      ∧ sensorReading .fuel 1048575 = .error .short := by decide +kernel

/-- R72: the probe results of the chapter. -/
theorem test_probeResults :
    sensorReading .probe 16 = .resistance 1280000 ∧ sensorReading .probe 1530 = .resistance 13386
      ∧ sensorReading .probe 20480 = .resistance 1000 ∧ sensorReading .probe 1048574 = .resistance 20 := by
  decide +kernel

/-- Table 27: at about 198.0 kHz REFERENCE ends with T = 41,374, and SENSOR begins with it held. -/
theorem test_table27_reference :
    (after (.referenceEnd 198000000) (converting (.reference ⟨3, .fuel⟩ 0 1046528))).converter.stage
      = .sensor ⟨3, .fuel⟩ 41374 41374 0 := by decide +kernel

/-- Table 27: at about 198.0 kHz on the reference resistor a sender of about 234.9 ohms gives 3317 cycles in SENSOR, and
234.9 ohms are delivered. -/
theorem test_table27_sensor :
    let s := (converting (.sensor ⟨3, .fuel⟩ 41374 41374 0)).modOutside (Outside.putReference ⟨3, .fuel⟩ 198000000)
    (s.converter.runOut (s.outside.putInput ⟨3, .fuel⟩ (.load 234850))).stage = .sensor ⟨3, .fuel⟩ 41374 0 3317
      ∧ ((after (.sensorEnd (.load 234850)) s).recordAt 3).map (·.fuel.lastResistance) = some (some 2349) := by
  decide +kernel

/-- R67, R72: at the nominal frequency a probe of 13,386 ohms gives close to 1530 counts and one of 1000 ohms 20,480. -/
theorem test_probeCounts :
    let c := (converting (.sensor ⟨3, .probe⟩ 40960 40960 0)).converter
    let o := fun r => base.outside.putInput ⟨3, .probe⟩ (.load r)
    (c.runOut (o 13386000)).stage = .sensor ⟨3, .probe⟩ 40960 0 1529
      ∧ (c.runOut (o 1000000)).stage = .sensor ⟨3, .probe⟩ 40960 0 20480
      ∧ (c.runOut (o 0)).stage = .sensor ⟨3, .probe⟩ 40960 40957 1048575 := by decide +kernel

/-- R69: at the nominal 200 kHz T is 40,960; below about 7.8 kHz the timebase counter comes to its limit. -/
theorem test_referenceCounts :
    let c := (converting (.select ⟨3, .fuel⟩)).converter.selectEnd
    let o := fun rate => base.outside.putReference ⟨3, .fuel⟩ rate
    (c.runOut (o 200000000)).stage = .reference ⟨3, .fuel⟩ 40960 0
      ∧ (c.runOut (o 7812000)).stage = .reference ⟨3, .fuel⟩ 1048575 1048575
      ∧ (c.run (o 200000000) 20).stage = .reference ⟨3, .fuel⟩ 20 1046529 := by decide +kernel

/-- Table 34's curve. -/
def curve34 : List (Nat × Int) := [(100, 3000), (800, 2250), (1600, 1400), (2400, 560), (3000, 0)]

/-- Table 35: the sample levels read on the curve of Table 34. -/
theorem test_table35_levels :
    readPoints 2342 curve34 = some 621 ∧ readPoints 2349 curve34 = some 614 ∧ readPoints 2360 curve34 = some 602
      ∧ readPoints 2500 curve34 = some 467 ∧ readPoints 400 curve34 = some 2679 ∧ readPoints 50 curve34 = some 3000
      ∧ readPoints 3000 curve34 = some 0 := by decide +kernel

/-- Table 35: the filtered levels and baselines. -/
theorem test_table35_filter :
    filterStep 2 (some 640) 614 = 633 ∧ filterStep 2 (some 633) 467 = 591 ∧ filterStep 2 (some 591) 467 = 560
      ∧ filterStep 2 (some 560) 2679 = 1090 ∧ filterStep 2 (some 1090) 2679 = 1487 ∧ baselineStep (some 700) 633 = 700
      ∧ baselineStep (some 591) 1090 = 1090 := by decide +kernel

/-- Table 36: halves away from zero, and FUEL_LOW with its band of 20. -/
theorem test_table36 :
    filterStep 2 (some 420) 390 = 412 ∧ filterStep 2 (some 412) 380 = 404 ∧ filterStep 2 (some 404) 370 = 395
      ∧ filterStep 2 (some 395) 430 = 404 ∧ filterStep 2 (some 404) 445 = 414 ∧ filterStep 2 (some 414) 445 = 422
      ∧ fuelLowAfter false 404 400 = false ∧ fuelLowAfter false 395 400 = true ∧ fuelLowAfter true 414 400 = true
      ∧ fuelLowAfter true 422 400 = false := by decide +kernel

/-- Table 39's curve: 13,386 ohms reads 99, that is 9.9 degrees. -/
theorem test_table39 :
    readPoints 13386 [(8000, 200), (12000, 120), (16000, 60), (24000, -20)] = some 99 := by decide +kernel

/-- Table 40, round 2385: the end by temperature drips for 120 rounds and counts a completed defrost. -/
theorem test_table40_end :
    ((endHeating 3 (parked7.modDefrost fun d => { d with state := .heating .normal, heatRounds := 25 }) heating).recordAt
        3).map (fun r => (r.defrost.state, r.defrost.dripCount, r.defrost.completed))
      = some (.dripping, 120, 1) := by decide +kernel

/-- Tables 42 and 43: bay 6 of rank 4 is granted, then bay 10 of rank 12. -/
theorem test_table43 :
    let before : Feeder := { Feeder.reset with rank := #v[2, 9, 13, 0, 5, 15, 4, 1, 10, 3, 12, 14, 7, 6, 11, 8] }
    let six := before.rotate 6
    let ten := six.rotate 10
    six.rank = #v[3, 9, 13, 1, 5, 15, 0, 2, 10, 4, 12, 14, 7, 6, 11, 8]
      ∧ ten.rank = #v[4, 10, 13, 2, 6, 15, 1, 3, 11, 5, 0, 14, 8, 7, 12, 9] := by decide +kernel

/-- A record HEATING as NORMAL at a bay. -/
def heatingRecord (n : TrailerNo) (b : Bay) : Record :=
  ((Record.create n .booked Settings.default).park b 0 .unwatched).modDefrost (fun d => { d with state := .heating .normal })

/-- The row of Table 44 at round 109: bays 2 and 9 heat, with loads 3 and 2. -/
def row109 : State :=
  (((servingAt 9 1 (heatingRecord 9 9) (servingAt 2 0 (heatingRecord 2 2) base)).setHeat 2 true).setHeat 9 true).modFeeder
    (fun f => { f with
      units := 6, sagLevel := 6
      grants := [{ bay := 2, load := 3, round := 100 }, { bay := 9, load := 2, round := 104 }] })

/-- Table 44, rounds 110 and 111 at 0.83 V: bay 9 is shed, then bay 2, and FEEDER_SAG is present with the value 2. -/
theorem test_table44_sag :
    let t := after (.checkPoint 830) row109
    let u := after (.checkPoint 830) (only .check t)
    (t.feeder.shed = 2 ∧ t.feeder.grants = [{ bay := 2, load := 3, round := 100 }] ∧ t.heat[(9 : Bay)] = false
        ∧ t.heat[(2 : Bay)] = true ∧ (t.recordAt 9).map (·.defrost.state) = some (.waiting .normal)
        ∧ t.notices.queue = [.feederSag] ∧ (t.notices.slot .feederSag).value = some (.units 2))
      ∧ u.feeder.shed = 5 ∧ u.feeder.grants = [] ∧ (u.notices.slot .feederSag).value = some (.units 2) := by decide +kernel

/-- Table 44, rounds 112, 120 and 121 at 0.97 V: the counter rises from 0 and from 9 to 10, where a unit is restored. -/
theorem test_table44_clear :
    let s (n : Nat) := base.modFeeder (fun f =>
      { f with units := 6, sagLevel := 6, shed := 5, verdict := .sag, restoreCounter := n })
    (after (.checkPoint 970) (s 0)).feeder.restoreCounter = 1 ∧ (after (.checkPoint 970) (s 0)).feeder.shed = 5
      ∧ (after (.checkPoint 970) (s 9)).feeder.shed = 4 ∧ (after (.checkPoint 970) (s 9)).feeder.restoreCounter = 0 := by
  decide +kernel

/-- R27, R28: the points of a round come at their offsets, those that lie before a row with it, and none twice. -/
theorem test_points :
    let t := after .sweepStart base
    t.timer.remaining = 940 ∧ t.timer.points = .allTaken ∧ (after .grantPoint t).timer = t.timer
      ∧ (after (.roundStart []) base).timer.points = base.timer.points
      ∧ (after (.roundStart []) base).timer.remaining = 1000 := by decide +kernel

/-- R27, R82: a sweep start of offset 0 taken before the round start of its instant finds round remaining at 0. -/
theorem test_sweepAhead :
    let s := (noPoint heating).modTimer (fun t => { t with stored := { t.stored with sweepAt := 0 }, remaining := 3 })
    let t := after .sweepStart s
    t.timer.remaining = 0 ∧ t.timer.points.sweep = .takenAhead ∧ t.converter.stage = .idle
      ∧ (t.timer.advance.points.sweep = .taken) := by decide +kernel

/-- Table 48, round 8000: OPEN is accepted and DOOR_GUARD is raised. -/
theorem test_table48_open :
    let s : State := { heating.modDoor 3 (fun d => { d with figures := { d.figures with openings := 12, openRounds := 40 } })
      with guard := .opening }
    let t := after (.doorAcceptance 3 false) s
    t.doors[3].figures.openings = 13 ∧ t.doors[3].figures.openRounds = 0
      ∧ t.notices.queue = [.bay .doorGuard 3] := by decide +kernel

/-- Table 15, step 1: SET ROUND_MS 600 lowers the offsets. -/
theorem test_table15_step1 :
    let s := base.modTimer (fun t => { t with stored := { roundMs := 1000, checkAt := 700, grantAt := 750, sweepAt := 800 } })
    (after (.setRoundMs 600) s).timer.stored = { roundMs := 600, checkAt := 599, grantAt := 599, sweepAt := 599 } := by
  decide +kernel

/-- R34's example of ages. -/
theorem test_ages : age 5 65533 = 8 ∧ age 5 2 = 3 ∧ age 10 65533 = 13 ∧ age 10 2 = 8 := by decide

/-- R44's examples. -/
theorem test_powerGood : storedPowerGood 250 = 300 ∧ storedPowerGood 240 = 200 ∧ storedPowerGood 701 = 700 := by decide

/-- R61, R62: the frame of trailer 61240 is judged good, and not with a bit of its check byte turned. -/
theorem test_tagFrame :
    let bytes := wordBytes (61240 : TrailerNo)
    Reader.judge (bytes ++ [Reader.checkByte bytes]) = some 61240
      ∧ Reader.judge (bytes ++ [Reader.checkByte bytes ^^^ 1]) = none := by decide +kernel

/-- Table 54: with the transmitter SENDING, one request is held and the next discarded. -/
theorem test_table54 :
    (after .take sending).link.buffer = some [0x16]
      ∧ (after (.list 2) (after .take sending)).link.buffer = some [0x16] := by decide +kernel

/-- R175, Table 55: the bytes of a LOOKUP request, written out. -/
theorem test_lookupPayload : parse [0x04, 0x00, 0x38, 0xEF, 0x00, 0x00] = .request (.lookup 0 61240) := by decide +kernel

/-- R175, Table 55: the bytes of a BOOK request that gives heater load and interval, written out. -/
theorem test_bookPayload :
    parse [0x01, 0x07, 0x00, 0x00, 0x00, 0x0C, 0x00, 0x03, 0x06, 0x00]
      = .request (.book 7 { noSettings with mask := 0x0C, heaterLoad := 3, interval := 6 }) := by decide +kernel

/-- R172: an unknown code, and a length that does not fit. -/
theorem test_badPayloads :
    parse [0x19] = .unknownCommand 0x19 ∧ parse [0x00] = .unknownCommand 0 ∧ parse [0x16, 0x00] = .badLength 0x16
      ∧ parse [0x0F, 0, 0, 2, 1, 0, 0, 0, 1, 0] = .badLength 0x0F := by decide +kernel

/-- R157: a HIGH key enters before the LOW keys. -/
theorem test_highBeforeLow :
    let low := Notices.raise 0 (.bay .parked 3) (some 7) none Notices.reset
    (Notices.present 0 .feederSag none (some (.units 2)) low).queue = [.feederSag, .bay .parked 3] := by decide +kernel

/-- R15, R12: the retry parks when a slot is FREE. -/
theorem test_retryParks :
    ((retry 3 (bayIn (.held (.tableFull 9)))).recordAt 3).map (·.number) = some 9 := by decide +kernel

/-! ## Witnesses: states and operands that meet the hypotheses of the statements, clause by clause -/

/-- The reader in the slots of an attempt. -/
def inSlots (bytes : List Byte) : ReaderState := .attempt 1 0 (.bits 600 0 0 0 bytes)

/-- IdleStepRunsTheTimeBase: in a reset; at a millisecond's end and inside one; and each event that the time base brings,
with the instant before it. -/
theorem test_witness_idleStep :
    (State.reset.pending = [] ∧ State.reset.resetting = some .power)
      ∧ (base.pending = [] ∧ base.resetting = none ∧ dueEvent base = none)
      ∧ (idleTick { base with timer := { base.timer with timeUs := 999 } }).timer.remaining = 999
      ∧ (idleTick { base with timer := { base.timer with timeUs := 998 } }).timer.remaining = 1000
      ∧ (let at' (n : Nat) := dueEvent (base.modTimer (fun t => { t with remaining := n }))
         at' 981 = none ∧ at' 980 = some (.checkPoint 1000))
      ∧ (let at' (n : Nat) := dueEvent ((only .grant base).modTimer (fun t => { t with remaining := n }))
         at' 961 = none ∧ at' 960 = some .grantPoint)
      ∧ (let at' (n : Nat) := dueEvent ((only .sweep base).modTimer (fun t => { t with remaining := n }))
         at' 941 = none ∧ at' 940 = some .sweepStart)
      ∧ (let at' (n : Nat) := dueEvent ((noPoint base).modTimer (fun t => { t with remaining := n }))
         at' 1 = none ∧ at' 0 = some (.roundStart []))
      ∧ (let at' (n : Nat) := dueEvent ((converting (.select ⟨3, .fuel⟩)).modConverter (fun c => { c with settle := n }))
         at' 1 = none ∧ at' 0 = some .selectEnd)
      ∧ (let at' (st : Stage) := dueEvent (converting st)
         at' (.reference ⟨3, .fuel⟩ 5 1048575) = none ∧ at' (.reference ⟨3, .fuel⟩ 5 0) = some (.referenceEnd 200000000)
           ∧ at' (.reference ⟨3, .fuel⟩ 1048575 7) = some (.referenceEnd 200000000)
           ∧ at' (.sensor ⟨3, .fuel⟩ 5 1 0) = none ∧ at' (.sensor ⟨3, .fuel⟩ 5 0 0) = some (.sensorEnd (.load 1000000))
           ∧ at' (.sensor ⟨3, .fuel⟩ 5 1 1048575) = some (.sensorEnd (.load 1000000)))
      ∧ (let at' (n : Nat) (high : Bool) (st : ReaderState) := dueEvent (readingAt n high st)
         at' 499 false (.attempt 1 0 .wake) = none ∧ at' 500 true (.attempt 1 0 .wake) = some .wakeEnd
           ∧ at' 599 false (.attempt 1 0 .presence) = none ∧ at' 600 false (.attempt 1 0 .presence) = some .presenceSeen
           ∧ at' 899 true (.attempt 1 0 .presence) = none ∧ at' 900 false (.attempt 1 0 .presence) = some .presenceSeen
           ∧ at' 900 true (.attempt 1 0 .presence) = some .presenceWindowClose
           ∧ at' 659 false (inSlots []) = none ∧ at' 660 false (inSlots []) = some (.bitSlotSample false)
           ∧ at' 8659 true (inSlots [1, 2, 3, 4]) = none
           ∧ at' 8660 true (inSlots [1, 2, 3, 4]) = some (.bitSlotSample true)
           ∧ at' 10599 true (inSlots [1, 2, 3, 4, 5]) = none
           ∧ at' 10600 true (inSlots [1, 2, 3, 4, 5]) = some .attemptJudged
           ∧ at' 49999 true (.spacing 1 0) = none ∧ at' 50000 true (.spacing 1 0) = some .spacingEnd)
      ∧ (let at' (n : Nat) := dueEvent (parked.modBay 3 (fun x => { x with wait := some n }))
         at' 1 = none ∧ at' 0 = some (.powerGoodWaitEnd 3))
      ∧ (let at' (n : Nat) := dueEvent (base.modTimer (fun t => { t with timeUs := n }))
         at' 9999 = none ∧ at' 10000 = some (.lineSampleTick base.outside.lines [])) := by
  decide +kernel

/-- R59: slot k begins where slot k - 1 ends: the slot number follows the time base. -/
theorem test_slotNumber :
    let at' (n : Nat) := (idleTick (readingAt n true (inSlots []))).reader.state
    at' 848 = .attempt 1 0 (.bits 600 0 0 0 []) ∧ at' 849 = .attempt 1 0 (.bits 600 1 0 0 [])
      ∧ at' 10349 = .attempt 1 0 (.bits 600 39 0 0 []) ∧ at' 10599 = .attempt 1 0 (.bits 600 39 0 0 []) := by
  decide +kernel

/-- R58, Table 24: the tag answers 150 us after the release: slot 0 begins 650 us into the attempt, by the time base and,
with the read brought there, by the rows alone; and an answer in the first 100 us counts from the window's opening. -/
theorem test_presenceWindow :
    let bits (began ahead : Nat) : Reader := { state := .attempt 1 0 (.bits began 0 0 0 []), queue := [3], ahead := ahead }
    (after .presenceSeen (readingAt 650 false (.attempt 1 0 .presence))).reader = bits 650 0
      ∧ (after .presenceSeen (after .wakeEnd (readingAt 0 true (.attempt 1 0 .wake)))).reader = bits 600 600
      ∧ (after .presenceSeen (after .wakeEnd (readingAt 0 true (.attempt 1 0 .wake)))).outside.tags[(3 : Bay)] = false
      ∧ (after .presenceSeen (readingAt 900 true (.attempt 1 0 .presence))).reader = bits 900 0
      ∧ (after .presenceSeen (readingAt 901 true (.attempt 1 0 .presence))).reader.state = .attempt 1 0 .presence := by
  decide +kernel

/-- R59, R65: a slot is looked at 60 us into it and, once sampled, not again. -/
theorem test_sampledOnce :
    let s (n : Nat) := readingAt n true (inSlots [])
    (s 659).tagLineSampled 3 = false ∧ (s 660).tagLineSampled 3 = true ∧ (s 660).tagLineSampled 4 = false
      ∧ (after (.bitSlotSample true) (s 660)).tagLineSampled 3 = false
      ∧ (after (.bitSlotSample true) (s 660)).reader.state = .attempt 1 0 (.bits 600 0 1 128 [])
      ∧ (after (.bitSlotSample true) (after (.bitSlotSample true) (s 660))).reader.state
          = .attempt 1 0 (.bits 600 1 2 192 [])
      ∧ (after (.bitSlotSample true) (after (.bitSlotSample true) (s 660))).reader.ahead = 250 := by
  decide +kernel

/-- R68 to R70: a microsecond is four ticks of the timebase and the cycles made in them. -/
theorem test_countersRun :
    let phased (part : Nat) (st : Stage) := (idleTick ((converting st).modConverter (fun c =>
      { c with settle := 4000, phase := 3900000000 * part }))).converter
    let at' := phased 1
    (at' (.select ⟨3, .fuel⟩)).settle = 3996
      ∧ (at' (.reference ⟨3, .fuel⟩ 7 1046530)).stage = .reference ⟨3, .fuel⟩ 11 1046531
      ∧ (at' (.reference ⟨3, .fuel⟩ 7 1046530)).phase = 700000000
      ∧ (phased 2000000 (.sensor ⟨3, .fuel⟩ 9 7 5)).stage = .sensor ⟨3, .fuel⟩ 9 3 6
      ∧ (phased 2000000 (.sensor ⟨3, .fuel⟩ 9 3 5)).stage = .sensor ⟨3, .fuel⟩ 9 0 6 := by decide +kernel

/-- CommandsOutOfPlaceChangeNothing: one state for each clause. -/
theorem test_witness_outOfPlace :
    State.reset.resetting = some .power ∧ Instr.take ≠ .powerOnReset ∧ base.reader.state = .idle
      ∧ base.converter.stage = .idle ∧ base.bays[3].connected = false ∧ parked.bays[3].connected = true
      ∧ heating.doors[3].figures.state = .shut ∧ parked.doors[3].ovc = .clear ∧ base.bays[3].wait = none
      ∧ base.link.transmitter = .idle ∧ sending.link.resetArmed = false
      ∧ (readingAt 901 true (.attempt 1 0 .presence)).reader.state = .attempt 1 0 .presence
      ∧ (parked.converter.channel ⟨3, .fuel⟩).countdown ≠ 1 ∧ base.recordAt 3 = none
      ∧ (noPoint base).timer.points.get .check = .taken ∧ (noPoint base).timer.stored.pointAt .check ≠ 0
      ∧ (heating.recordAt 3).map (·.defrost.state) = some (.heating .normal)
      ∧ (parked.recordAt 3).map (·.defrost.state) = some .idle := by decide +kernel

/-- HostCommandsMeetTheLink: taken at once, held, discarded. -/
theorem test_witness_hostCommands :
    requestOf .take = some .take ∧ base.resetting = none ∧ base.link.transmitter = .idle
      ∧ sending.link.transmitter = .sending [0x5A] ∧ sending.link.buffer = none
      ∧ (after .take sending).link.transmitter = .sending [0x5A]
      ∧ (after .take sending).link.buffer = some [0x16] := by decide +kernel

/-- PayloadsAndRequestsCorrespond: a canonical request, and a payload read as a request. -/
theorem test_witness_payloads :
    (Request.book 7 { noSettings with mask := 0xFFF, heaterLoad := 3 }).canonical = true
      ∧ (Request.curveWrite 0 0 2 [(1, 2), (3, 4)]).canonical = true
      ∧ parse [0x16] = .request .take := by decide +kernel

/-- PayloadsAndRequestsCorrespond: the first bytes at both ends of the codes, and a known code with an operand too many. -/
theorem test_firstChecks :
    parse [0] = .unknownCommand 0 ∧ parse [0x19, 1] = .unknownCommand 0x19 ∧ parse [0xFF] = .unknownCommand 0xFF
      ∧ parse [0x18] = .request .reset ∧ parse [0x18, 0] = .badLength 0x18 ∧ parse [1] = .badLength 1 := by decide +kernel

/-- ReadsAnswerAndChangeNothing: GET of FEEDER_UNITS and of RESET_CAUSE. -/
theorem test_getValues :
    (after (.get 10) heating).link.transmitter
        = .sending (frameOf [0x13, 0, 10, 3, 8, 0, 0, 0, 0, 0, 0, 0, 2, 0, 0, 0])
      ∧ (after (.get 15) base).link.transmitter = .sending (frameOf [0x13, 0, 15, 1, 0, 0, 0, 0]) := by decide +kernel

/-- FrameBytesAreOneAcceptedFrame: payloads of one byte and of 250 bytes. -/
theorem test_witness_frameBytes :
    base.link.receiver = .hunt ∧ 1 ≤ [(0x16 : Byte)].length ∧ (List.replicate 250 (0 : Byte)).length ≤ 250 := by
  decide +kernel

/-- The receiver in a state. -/
def receiving (r : Receiver) : State := { base with link := { base.link with receiver := r } }

/-- ReceiverTakesBytesAndFrames: HUNT with SYNC and with another byte; LENGTH 0, 1, 250 and 251; BODY short of its end, and
at its end with a CHECK that differs and one that matches. -/
theorem test_witness_receiver :
    (0x59 : Byte) ≠ 0x5A ∧ (receiving .length).link.receiver = .length
      ∧ 1 ≤ (1 : Byte).toNat ∧ (250 : Byte).toNat ≤ 250 ∧ (0 : Byte).toNat = 0 ∧ 250 < (251 : Byte).toNat
      ∧ (receiving (.body 1 [0x16])).link.receiver = .body 1 [0x16] ∧ [(0x16 : Byte)].length + 1 < 1 + 2
      ∧ (receiving (.body 1 ([0x16] ++ [0x58]))).link.receiver = .body 1 ([0x16] ++ [0x58])
      ∧ checkOf [0x16] ≠ (0x00 : Byte) ++ (0x00 : Byte)
      ∧ checkOf [0x16] = (checkOf [0x16]).extractLsb' 8 8 ++ (checkOf [0x16]).extractLsb' 0 8 := by decide +kernel

/-- ReceiverTakesBytesAndFrames: complete frames that are discarded, held and taken, with each result of the checks. -/
theorem test_witness_completeFrames :
    (0 : Half) ≠ checkOf [0x16] ∧ sending.link.buffer = none
      ∧ (after .take sending).link.buffer = some [0x16] ∧ base.link.transmitter = .idle
      ∧ parse [0x16] = .request .take ∧ parse [0x99] = .unknownCommand 0x99 ∧ parse [0x16, 0] = .badLength 0x16
      ∧ (List.replicate 250 (0x16 : Byte)).length ≤ 250 := by decide +kernel

/-- AnswerEndTakesTheHeldFrame: an empty buffer, a held frame, and RESET's answer. -/
theorem test_witness_answerEnd :
    sending.resetting = none ∧ sending.link.transmitter = .sending [0x5A] ∧ sending.link.resetArmed = false
      ∧ (after .take sending).link.buffer = some [0x16] ∧ (after .take sending).link.resetArmed = false
      ∧ (after .reset base).link.transmitter = .sending (frameOf [0x18, 0])
      ∧ (after .reset base).link.resetArmed = true := by decide +kernel

/-- ResetsBeginAndEnd: no reset, a power-on reset and a pin reset in progress; and the state a reset leaves. -/
theorem test_witness_resets :
    base.resetting = none ∧ State.reset.resetting = some .power ∧ (after .pinReset base).resetting = some .pin
      ∧ State.reset = { State.reset with resetting := some .power, resetCause := State.reset.resetCause,
                                         pending := State.reset.pending } := by decide +kernel

/-- ResetsBeginAndEnd: round start 0 leaves every point to come and the comparator on. -/
theorem test_roundStartZero :
    (after .resetEnd State.reset).timer.points = base.timer.points
      ∧ (after .resetEnd State.reset).feeder.comparatorOn = true := by decide +kernel

/-- GivenSettingsAreStoredClamped: clock mode codes with their mask bit, and settings below, above and inside their
ranges. -/
theorem test_witness_settings :
    let a := { noSettings with mask := 0x34, heaterLoad := 9, clockMode := 1, termination := 0xFFF0 }
    let x := applySettings a Settings.default
    a.mask.getLsbD 4 = true ∧ noSettings.mask.getLsbD 4 = false ∧ x.heaterLoad = 3 ∧ x.clockMode = .run
      ∧ x.termination = 0 := by decide +kernel

/-- BookCreatesABookedRecord: BAD_VALUE by number, by mask and by clock mode; DUPLICATE; FULL; and a FREE slot. -/
theorem test_witness_book :
    base.ready ∧ booked.ready ∧ fullTable.ready
      ∧ settingsMalformed { noSettings with mask := 0x1000 } = true
      ∧ settingsMalformed { noSettings with mask := 0x10, clockMode := 2 } = true
      ∧ settingsMalformed noSettings = false ∧ booked.slotOf 7 = some 0 ∧ booked.table[0] = some record7
      ∧ fullTable.slotOf 7 = none ∧ fullTable.freeSlot = none ∧ base.slotOf 7 = none ∧ base.freeSlot = some 0 :=
  ⟨ready_base, ready_booked, ⟨rfl, rfl⟩, by decide +kernel⟩

/-- AmendStoresAndRestarts: a BOOKED record, and a PARKED one whose fuel curve changes and one whose it does not. -/
theorem test_witness_amend :
    booked.ready ∧ parked.ready ∧ settingsMalformed noSettings = false ∧ base.slotOf 7 = none
      ∧ booked.slotOf 7 = some 0 ∧ booked.table[0] = some record7 ∧ record7.place.bay? = none
      ∧ parked.slotOf 7 = some 0 ∧ parked.table[0] = some parked7 ∧ parked7.place.bay? = some 3
      ∧ (applySettings { noSettings with mask := 1, fuelCurve := 2 } parked7.settings).fuelCurve ≠ parked7.settings.fuelCurve
      ∧ (applySettings noSettings parked7.settings).fuelCurve = parked7.settings.fuelCurve :=
  ⟨ready_booked, ready_parked, by decide +kernel⟩

/-- RetireFreesTheSlot: no record, a BOOKED, a DEPARTED and a PARKED one. -/
theorem test_witness_retire :
    booked.ready ∧ parked.ready ∧ base.slotOf 7 = none ∧ booked.slotOf 7 = some 0 ∧ record7.place.bay? = none
      ∧ parked.slotOf 7 = some 0 ∧ parked7.place.bay?.isSome = true
      ∧ ((disconnect 3 parked).table[0].map (fun r => r.place.bay?)) = some none :=
  ⟨ready_booked, ready_parked, by decide +kernel⟩

/-- ReadsAnswerAndChangeNothing: found and not found by number and by bay, codes at the ends of their ranges. -/
theorem test_witness_reads :
    booked.ready ∧ booked.slotOf 7 = some 0 ∧ base.slotOf 7 = none ∧ parked.recordAt 3 = some parked7
      ∧ parked.recordAt 4 = none ∧ 16 ≤ (16 : Word).toNat ∧ 2 ≤ (2 : Byte).toNat ∧ 16 ≤ (16 : Byte).toNat
      ∧ 8 ≤ (8 : Byte).toNat ∧ kindOf 1 = some (.bay .parked) ∧ kindOf 15 = some (.bay .doorGuard)
      ∧ kindOf 16 = some .feederSag ∧ 16 < (17 : Byte).toNat
      ∧ 15 < (16 : Byte).toNat :=
  ⟨ready_booked, by decide +kernel⟩

/-- ReadsAnswerAndChangeNothing, R175: Tables 58 and 60 and the settings block, byte by byte, for trailer 7 at bay 3; the
bytes 255 and 112 are -144 signed. -/
theorem test_layouts :
    (fueled7.bytes none).length = 80 ∧ (bayBytes parked.bays[3] parked.doors[3] 3 (some 7)).length = 16
      ∧ Settings.default.block = [0, 4, 2, 6, 0, 0, 120, 0, 140, 10, 120, 0, 144, 1, 100, 0, 44, 1, 8, 7]
      ∧ bayBytes parked.bays[3] parked.doors[3] 3 (some 7) = [3, 4, 0, 0, 0, 0, 0, 3, 0, 0, 0, 3, 7, 0, 0, 0]
      ∧ (fueled7.bytes none).take 13 = [2, 7, 0, 0, 0, 0, 5, 3, 0, 0, 0, 0, 0]
      ∧ ((fueled7.bytes none).drop 33).take 13 = [13, 38, 9, 0, 0, 128, 2, 188, 2, 0, 0, 0, 0]
      ∧ curveBytes 4 (some { kind := .probe, points := [(8000, -144)] }) = [4, 1, 1, 64, 31, 0, 0, 112, 255] := by
  decide +kernel

/-- ListAnswersAscendingNumbers: the codes 0 to 4. -/
theorem test_witness_list :
    base.ready ∧ (0 : Byte).toNat = 0 ∧ 1 ≤ (1 : Byte).toNat ∧ (3 : Byte).toNat ≤ 3 ∧ 3 < (4 : Byte).toNat :=
  ⟨ready_base, by decide⟩

/-- AssignParksTheNamedTrailer: BAD_VALUE, WRONG_STATE, IN_USE, a record that is not PARKED, a new record, FULL; for TAG_FAIL
and for CONFLICT. -/
theorem test_witness_assign :
    parked.ready ∧ (bayIn (.held .tagFail)).ready ∧ 16 ≤ (16 : Byte).toNat
      ∧ parked.bays[3].state = .serving ∧ (bayIn (.held .tagFail)).bays[3].state = .held .tagFail
      ∧ (bayIn (.held (.conflict 7))).bays[3].state = .held (.conflict 7)
      ∧ (parked.modBay 5 (fun x => { x with state := .held (.conflict 7) })).slotOf 7 = some 0
      ∧ parked7.place.bay?.isSome = true
      ∧ (booked.modBay 5 (fun x => { x with state := .held .tagFail })).slotOf 7 = some 0 ∧ record7.place.bay? = none
      ∧ (bayIn (.held .tagFail)).slotOf 7 = none ∧ (bayIn (.held .tagFail)).freeSlot = some 0
      ∧ (fullTable.modBay 3 (fun x => { x with state := .held .tagFail })).freeSlot = none :=
  ⟨ready_parked, ⟨rfl, rfl⟩, by decide +kernel⟩

/-- ParkingRestartsTheRecord: CLEAR and TRIPPED. -/
theorem test_witness_parking :
    base.doors[3].ovc = .clear ∧ (base.modDoor 3 (fun d => { d with ovc := .tripped })).doors[3].ovc = .tripped := by
  decide +kernel

/-- RebaseSetsBaselineToLevel: absent figures, and present ones with and without a bay. -/
theorem test_witness_rebase :
    (serving fueled7).ready ∧ base.slotOf 7 = none ∧ parked.slotOf 7 = some 0 ∧ parked7.fuel.filtered = none
      ∧ (serving fueled7).slotOf 7 = some 0 ∧ fueled7.fuel.filtered = some 640 ∧ fueled7.fuel.baseline = some 700
      ∧ fueled7.place.bay? = some 3 ∧ (fueled7.depart 3 0).place.bay? = none
      ∧ (fueled7.depart 3 0).fuel.filtered = some 640 :=
  ⟨⟨rfl, rfl⟩, by decide +kernel⟩

/-- DefrostCommandsActByState: no record, a record not PARKED, and one PARKED in each defrost state. -/
theorem test_witness_defrostCommands :
    heating.ready ∧ base.slotOf 7 = none ∧ record7.place.bay? = none ∧ heating.slotOf 7 = some 0
      ∧ (heating.recordAt 3).map (fun r => (r.defrost.state, r.place.bay?)) = some (.heating .normal, some 3)
      ∧ parked7.place.bay?.isSome = true ∧ parked7.defrost.state = .idle
      ∧ ((defrosting (fun d => { d with state := .waiting .normal })).recordAt 3).map (·.defrost.state)
          = some (.waiting .normal)
      ∧ ((defrosting (fun d => { d with state := .dripping })).recordAt 3).map (·.defrost.state) = some .dripping :=
  ⟨⟨rfl, rfl⟩, by decide +kernel⟩

/-- The defrost figures of the record at bay 3. -/
def figures (s : State) : Option DefrostFigures := (s.recordAt 3).map (·.defrost)

/-- RoundStartAdvancesOneDefrostCount: a stopped clock in IDLE and WAITING; counts of 2 and 1 in IDLE, WAITING and DRIPPING;
heat rounds short of the maximum and at it; and an end of heating with and without drip rounds. -/
theorem test_witness_defrostRound :
    parked.bays[3].ref = some 0 ∧ parked.table[0] = some parked7
      ∧ (let r := { parked7 with settings := { parked7.settings with clockMode := .run } }
         r.settings.clockMode = .run ∧ (serving r).doors[3].run = .unknown)
      ∧ figures (defrostRound 3 (defrosting (fun d => { d with intervalCount := 2 })))
          = some { parked7.defrost with intervalCount := 1 }
      ∧ figures (defrostRound 3 (defrosting (fun d => { d with intervalCount := 1 })))
          = some { parked7.defrost with state := .waiting .normal }
      ∧ figures (defrostRound 3 (defrosting (fun d => { d with state := .waiting .normal, intervalCount := 2 })))
          = some { parked7.defrost with state := .waiting .normal, intervalCount := 1 }
      ∧ figures (defrostRound 3 (defrosting (fun d => { d with state := .waiting .normal, intervalCount := 1 })))
          = some { parked7.defrost with state := .waiting .urgent }
      ∧ figures (defrostRound 3 (defrosting (fun d => { d with state := .heating .normal, heatRounds := 2698 })))
          = some { parked7.defrost with state := .heating .normal, heatRounds := 2699 }
      ∧ figures (defrostRound 3 (defrosting (fun d => { d with state := .heating .normal, heatRounds := 2699 })))
          = some { parked7.defrost with state := .dripping, heatRounds := 2700, dripCount := 120, completed := 1 }
      ∧ figures (defrostRound 3 (defrosting (fun d => { d with state := .dripping, dripCount := 2 })))
          = some { parked7.defrost with state := .dripping, dripCount := 1 }
      ∧ figures (defrostRound 3 (defrosting (fun d => { d with state := .dripping, dripCount := 1 })))
          = some parked7.defrost
      ∧ { parked7.settings with drip := 0 }.drip = 0 := by decide +kernel

/-- BayDisableEndsTheBaysWork: bay 16, each bay state, and a HEATING record and none that heats. -/
theorem test_witness_disable :
    parked.ready ∧ 16 ≤ (16 : Byte).toNat ∧ (3 : Byte).toNat = (3 : Bay).val
      ∧ (bayIn .disabled).bays[3].state = .disabled ∧ base.bays[3].state = .empty
      ∧ (reading (.attempt 1 0 .wake)).bays[3].state = .identifying
      ∧ (bayIn (.held .tagFail)).bays[3].state = .held .tagFail ∧ parked.bays[3].state = .serving
      ∧ (trip 3 parked).bays[3].state = .fault ∧ heating.heatingAt 3 = true ∧ parked.heatingAt 3 = false :=
  ⟨ready_parked, by decide +kernel⟩

/-- EnableAndClearFaultReturnTheBay: each way out of DISABLED, a bay not DISABLED, and FAULT with the input CLEAR and
TRIPPED. -/
theorem test_witness_enable :
    parked.ready ∧ parked.bays[3].state ≠ .disabled ∧ (disable 3 parked).bays[3].state = .disabled
      ∧ (disable 3 parked).bays[3].ref = some 0 ∧ (disable 3 parked).doors[3].ovc = .clear
      ∧ ((disable 3 parked).modDoor 3 (fun d => { d with ovc := .tripped })).doors[3].ovc = .tripped
      ∧ (bayIn .disabled).bays[3].ref = none ∧ (bayIn .disabled).bays[3].connected = true
      ∧ (disable 3 base).bays[3].connected = false ∧ (disable 3 base).bays[3].state = .disabled
      ∧ (acceptOvc 3 false parked).bays[3].state = .fault ∧ (acceptOvc 3 false parked).doors[3].ovc = .tripped
      ∧ (trip 3 parked).bays[3].state = .fault ∧ (trip 3 parked).doors[3].ovc = .clear :=
  ⟨ready_parked, by decide +kernel⟩

/-- ConnectIdentifiesAndDisconnectEmpties: an EMPTY and a DISABLED bay; a PARKED record and none. -/
theorem test_witness_connect :
    base.resetting = none ∧ base.bays[3].connected = false ∧ base.bays[3].state = .empty
      ∧ (disable 3 base).bays[3].connected = false ∧ (disable 3 base).bays[3].state = .disabled
      ∧ heating.bays[3].connected = true ∧ heating.bays[3].ref = some 0
      ∧ (heating.recordAt 3).map (·.place) = some (.parked 3 0)
      ∧ (bayIn .identifying).bays[3].connected = true ∧ (bayIn .identifying).recordAt 3 = none := by decide +kernel

/-- ConnectIdentifiesAndDisconnectEmpties: LEFT carries the trailer number; a head, a bay behind it and an empty queue; a
conversion in flight at the bay and at another. -/
theorem test_witness_leaves :
    ((disconnect 3 parked).notices.slot (.bay .left 3)).trailer = some 7
      ∧ (reading (.spacing 1 0)).reader.remove 9 3 = { state := .idle, queue := [], ahead := 0 }
      ∧ (let r : Reader := { state := .spacing 1 0, queue := [3, 5], ahead := 7 }
         r.remove 9 3 = { state := .attempt 1 9 .wake, queue := [5], ahead := 0 }
           ∧ r.remove 9 5 = { state := .spacing 1 0, queue := [3], ahead := 7 }
           ∧ r.append 9 6 = { state := .spacing 1 0, queue := [3, 5, 6], ahead := 7 })
      ∧ Reader.reset.remove 9 3 = Reader.reset
      ∧ (let c : Converter := { Converter.reset with
           stage := .select ⟨3, .fuel⟩, sweep := some [⟨3, .probe⟩, ⟨5, .fuel⟩], spot := [⟨3, .fuel⟩] }
         (c.bayLeaves 30 3).stage = .select ⟨5, .fuel⟩ ∧ (c.bayLeaves 29 3).stage = .idle ∧ (c.bayLeaves 30 3).spot = []
           ∧ (c.bayLeaves 30 5).stage = .select ⟨3, .fuel⟩ ∧ (c.bayLeaves 30 5).sweep = some [⟨3, .probe⟩]) := by
  decide +kernel

/-- RunTripAndWaitEvents: a new run level, CLEAR and TRIPPED at a bay SERVING and at one that is not, a wait running. -/
theorem test_witness_runAndTrip :
    parked.resetting = none ∧ parked.bays[3].connected = true ∧ parked.doors[3].run ≠ .running
      ∧ parked.doors[3].run ≠ .stopped ∧ parked.doors[3].ovc ≠ .tripped ∧ parked.bays[3].state = .serving
      ∧ (bayIn .identifying).bays[3].state ≠ .serving
      ∧ ((bayIn .identifying).modDoor 3 (fun d => { d with ovc := .tripped })).doors[3].ovc ≠ .clear
      ∧ parked.bays[3].wait = some 200 := by decide +kernel

/-- DoorAcceptancesAsTable47: SHUT, OPEN and UNKNOWN, with a record and without. -/
theorem test_witness_doorAcceptances :
    parked.resetting = none ∧ parked.bays[3].connected = true ∧ heating.doors[3].figures.state = .shut
      ∧ parked.doors[3].figures.state = .unknown ∧ (acceptDoor 3 false parked).doors[3].figures.state = .opened
      ∧ (bayIn .identifying).bays[3].connected = true ∧ (bayIn .identifying).bays[3].ref = none := by decide +kernel

/-- RoundStartCountsAndJudgesTheDoor: unwatched; watched with the open rounds one short of the limit and at it. -/
theorem test_witness_doorRound :
    base.bays[3].connected = false ∧ parked.bays[3].connected = true
      ∧ (let s (n : Nat) : State := parked.modDoor 3 (fun d =>
           { d with figures := { d.figures with state := .opened, openRounds := n }, run := .running })
         (doorRound 3 (s 298)).doors[3].doorLong = false ∧ (doorRound 3 (s 299)).doors[3].doorLong = true) := by
  decide +kernel

/-- One sample of every line. -/
def sampled (sense door run ovc first : Bool) : Vector LineSample 16 := Vector.replicate 16 ⟨sense, door, run, ovc, first⟩

/-- R35, Notice: a trailer plugged in all along is seen as connected at the fifth tick, and the sixth comes at 60 ms. -/
theorem test_fifthTick :
    let s := ((base.modTimer (fun t => { t with timeUs := 50000, tickUs := 50000 })).modBay 3
      (fun x => { x with differing := 4 })).modLines 3 (fun x => { x with sense := true })
    dueEvent s = some (.lineSampleTick s.outside.lines []) ∧ ((idleAfter s).bays[3].state = .identifying)
      ∧ (idleAfter s).timer.tickUs = 60000 := by decide +kernel

/-- LineSampleTickCountsSamples: an order without a bay twice; the sense runs 3 and 4; the line runs 0, 1 and 2 of each line;
the sense line before and behind the others, at a watched bay and at one that is not. -/
theorem test_witness_lineSamples :
    base.resetting = none ∧ [(3 : Bay), 0].Nodup ∧ true ≠ base.bays[3].connected ∧ base.bays[3].differing < 4
      ∧ (base.modBay 3 (fun x => { x with differing := 4 })).bays[3].differing = 4
      ∧ (let s (l : Line) := parked.modDoor 3 (fun d => { d with doorLine := l, runLine := l, ovcLine := l })
         let t (l : Line) := bayTick (sampled true true true false false) 3 (s l)
         (t .none).doors[3].doorLine = { candidate := some true, run := 1 }
           ∧ (t { candidate := some true, run := 1 }).doors[3].runLine = { candidate := some true, run := 2 }
           ∧ (t { candidate := some true, run := 2 }).doors[3].figures.state = .shut
           ∧ (t { candidate := some true, run := 2 }).doors[3].run = .running
           ∧ (t { candidate := some false, run := 2 }).doors[3].ovc = .tripped
           ∧ (t { candidate := some false, run := 2 }).doors[3].doorLine = { candidate := some true, run := 1 })
      ∧ parked.doors[3].ovc = .clear ∧ (acceptRun 3 true parked).doors[3].run = .running
      ∧ (let s := base.modBay 3 (fun x => { x with differing := 4 })
         (bayTick (sampled true true true false true) 3 s).bays[3].state = .identifying
           ∧ (bayTick (sampled true true true false true) 3 s).doors[3] = .unwatched
           ∧ (bayTick (sampled true true true false false) 3 s).doors[3] = .unwatched)
      ∧ (let s := parked.modBay 3 (fun x => { x with differing := 4 })
         (bayTick (sampled false true true true true) 3 s).doors[3] = .unwatched
           ∧ (bayTick (sampled false true true true false) 3 s).bays[3].state = .empty) := by decide +kernel

/-- AttemptPhasesFollow: each phase, the second and third attempt, the first and the eighth bit of a byte, and the instants
at which the line's use changes. -/
theorem test_witness_attempts :
    (reading (.attempt 1 0 .wake)).resetting = none ∧ (reading (.attempt 2 0 .presence)).reader.state = .attempt 2 0 .presence
      ∧ (reading (.attempt 3 0 .presence)).reader.queue = [3] ∧ (reading (.spacing 1 0)).reader.state = .spacing 1 0
      ∧ (after (.bitSlotSample false) (reading (.attempt 1 0 (.bits 600 6 7 2 [])))).reader.state
          = .attempt 1 0 (.bits 600 7 0 1 [1])
      ∧ (let driven (n : Nat) (st : ReaderState) := (readingAt n true st).tagLineDriven 3
         driven 0 (.attempt 1 0 .wake) = true ∧ driven 600 (.attempt 1 0 .presence) = false
           ∧ driven 869 (inSlots []) = true ∧ driven 870 (inSlots []) = false
           ∧ driven 10369 (inSlots []) = true ∧ driven 10600 (inSlots []) = false ∧ driven 0 (.spacing 1 0) = false)
      ∧ (let seen (n : Nat) (st : ReaderState) := (readingAt n true st).tagLineSampled 3
         seen 599 (.attempt 1 0 .presence) = false ∧ seen 600 (.attempt 1 0 .presence) = true
           ∧ seen 900 (.attempt 1 0 .presence) = true ∧ seen 901 (.attempt 1 0 .presence) = false
           ∧ seen 500 (.attempt 1 0 .wake) = false ∧ seen 10600 (inSlots [1, 2, 3, 4, 5]) = false)
      ∧ (reading (.attempt 1 0 .wake)).tagLineDriven 4 = false ∧ (reading (.attempt 1 0 .wake)).tagLineSampled 4 = false := by
  decide +kernel

/-- AttemptPhasesFollow, StepKeepsTheRangesOfTheTables: each state of the reader at the ends of its time. -/
theorem test_witness_readerInv :
    ReaderInv parked ∧ ReaderInv (readingAt 0 true (.attempt 1 0 .wake)) ∧ ReaderInv (readingAt 500 true (.attempt 1 0 .wake))
      ∧ ReaderInv (readingAt 500 true (.attempt 3 0 .presence)) ∧ ReaderInv (readingAt 900 true (.attempt 3 0 .presence))
      ∧ ReaderInv (readingAt 600 true (inSlots [])) ∧ ReaderInv (readingAt 660 true (inSlots []))
      ∧ ReaderInv (readingAt 10600 true (.attempt 1 0 (.bits 600 39 0 5 [1, 2, 3, 4, 5])))
      ∧ ReaderInv (readingAt 50000 true (.spacing 2 0)) := by
  refine ⟨rfl, ?_, ?_, ?_, ?_, ?_, ?_, ?_, ?_⟩ <;>
    simp [ReaderInv, readingAt, reading, inSlots, Reader.instant, State.modTimer]

/-- The five bytes of the frame of trailer 7. -/
def frame7 : List Byte := [7, 0, 0, 0, Reader.checkByte [7, 0, 0, 0]]

/-- JudgedAttemptDeliversItsOutcome: a bad frame at attempts 2 and 3; a good one for a number PARKED elsewhere, BOOKED, new
with a FREE slot and new without. -/
theorem test_witness_judged :
    Reader.checkByte [7, 0, 0, 0] ≠ 0 ∧ (0 : Byte) ++ (0 : Byte) ++ (0 : Byte) ++ (7 : Byte) = (7 : TrailerNo)
      ∧ (reading (.attempt 3 0 (.bits 0 39 0 0 frame7))).reader.queue = 3 :: []
      ∧ parked.slotOf 7 = some 0 ∧ parked7.place.bay?.isSome = true ∧ booked.slotOf 7 = some 0
      ∧ record7.place.bay? = none ∧ base.slotOf 7 = none ∧ base.freeSlot = some 0 ∧ fullTable.slotOf 7 = none
      ∧ fullTable.freeSlot = none ∧ (7 : TrailerNo) ≠ 0 := by decide +kernel

/-- HoldingAndItsRetry: HELD for the same reason and another; each outcome of a retry. -/
theorem test_witness_hold :
    (bayIn (.held .tagFail)).bays[3].state = .held .tagFail ∧ base.bays[3].state ≠ .held .tagFail
      ∧ (bayIn (.held (.tableFull 7))).bays[3].state = .held (.tableFull 7)
      ∧ (fullTable.modBay 3 (fun x => { x with state := .held (.tableFull 7) })).slotOf 7 = none
      ∧ fullTable.freeSlot = none ∧ (bayIn (.held (.tableFull 7))).freeSlot = some 0
      ∧ (booked.modBay 3 (fun x => { x with state := .held (.tableFull 7) })).slotOf 7 = some 0
      ∧ (parked.modBay 5 (fun x => { x with state := .held (.tableFull 7) })).slotOf 7 = some 0 := by decide +kernel

/-- The sensor count that the nominal oscillator makes in T ticks on a network of a resistance. -/
def sensorCount (t network : Nat) : Option Nat :=
  let s := converting (.sensor ⟨3, .fuel⟩ t t 0)
  match (s.converter.runOut (s.outside.putInput ⟨3, .fuel⟩ (.fault network))).stage with
  | .sensor _ _ _ n => some n
  | _ => none

/-- StagesFollowAndGiveAReading: each stage, and the counts at which the clauses meet: the wrap one tick before the timebase
counter's limit, at it and never; the least counts, those where HIGH ends, and the largest. -/
theorem test_witness_stages :
    (converting (.select ⟨3, .fuel⟩)).converter.stage = .select ⟨3, .fuel⟩ ∧ parked.resetting = none
      ∧ (let ends (tb rate : Nat) := ((converting (.reference ⟨3, .fuel⟩ tb 1048575)).converter.runOut
           (base.outside.putReference ⟨3, .fuel⟩ rate)).stage
         ends 1048573 4000000000 = .reference ⟨3, .fuel⟩ 1048574 0
           ∧ ends 1048574 4000000000 = .reference ⟨3, .fuel⟩ 1048575 0
           ∧ ends 0 0 = .reference ⟨3, .fuel⟩ 1048575 1048575)
      ∧ sensorCount 40960 256000001 = some 15 ∧ sensorCount 40960 256000000 = some 16
      ∧ sensorCount 40960 4000001 = some 1023 ∧ sensorCount 40960 4000000 = some 1024
      ∧ sensorCount 40960 3907 = some 1048374 ∧ sensorCount 40960 3906 = some 1048575 ∧ sensorCount 40960 0 = some 1048575
      ∧ (Stage.reference ⟨3, .fuel⟩ 0 1046528).ok ∧ (Stage.sensor ⟨3, .fuel⟩ 40960 40960 0).ok
      ∧ 40000 < (2 * 40960000 + 1023) / (2 * 1023) ∧ (2 * 40960000 + 1024) / (2 * 1024) ≤ 40000
      ∧ (let c (l : Option (List Channel)) : Converter := { Converter.reset with sweep := l }
         ((c none).takeNext 30).stage = .idle ∧ ((c (some [])).takeNext 30).sweep = none
           ∧ ((c (some [⟨3, .fuel⟩])).takeNext 29).sweep = none
           ∧ ((c (some [⟨3, .fuel⟩])).takeNext 30).stage = .select ⟨3, .fuel⟩) := by
  refine ⟨rfl, rfl, by decide +kernel, by decide +kernel, by decide +kernel, by decide +kernel, by decide +kernel,
    by decide +kernel, by decide +kernel, by decide +kernel, ?_, ?_, by decide, by decide, by decide +kernel⟩
  · unfold Stage.ok; decide
  · unfold Stage.ok; decide

/-- StagesFollowAndGiveAReading: a counting stage with less than a cycle gone. -/
theorem test_witness_phase :
    (converting (.reference ⟨3, .fuel⟩ 0 1046528)).converter.phaseOk base.outside
      ∧ (converting (.sensor ⟨3, .fuel⟩ 40960 40960 0)).converter.phaseOk base.outside :=
  ⟨show 0 < _ by decide, show 0 < _ by decide +kernel⟩

/-- ResistancesRoundToNearest: the least and the largest count. -/
theorem test_witness_resistances :
    fuelReading 16 = .error .high ∧ fuelReading 1024 = .resistance 30000 ∧ probeReading 16 = .resistance 1280000
      ∧ probeReading 1048574 = .resistance 20 := by decide +kernel

/-- The sweep start alone still to come, with `n` ms of the round behind it. -/
def sweepDue (n : Nat) (s : State) : State :=
  (only .sweep s).modTimer (fun t => { t with inForce := { t.inForce with sweepAt := 1000 - n } })

/-- SweepAndSpotListsAreBuilt: an empty list; a list with a conversion in flight; a head below and at RESERVE_MS; SPOT in
each of its answers. -/
theorem test_witness_sweep :
    base.resetting = none ∧ (sweepDue 30 base).timer.points.sweep = .outstanding
      ∧ (∀ q ∈ [Point.check, .grant], (sweepDue 30 base).timer.points.get q = .taken)
      ∧ (after .sweepStart (sweepDue 30 base)).converter.sweep = none
      ∧ (after .sweepStart (sweepDue 30
            { heating with converter := { heating.converter with stage := .select ⟨5, .fuel⟩ } })).converter.sweep
          = some [⟨3, .probe⟩]
      ∧ (after .sweepStart (sweepDue 29 heating)).converter.stage = .idle
      ∧ (after .sweepStart (sweepDue 29 heating)).timer.remaining = 29
      ∧ (after .sweepStart (sweepDue 30 heating)).converter.stage = .select ⟨3, .probe⟩
      ∧ channelKindOf 1 = some .probe ∧ base.bays[3].state ≠ .serving ∧ parked.bays[3].state = .serving
      ∧ (⟨3, .fuel⟩ : Channel) ∉ parked.converter.spot ∧ parked.converter.spot.length < 8
      ∧ (⟨3, .fuel⟩ : Channel) ∈ (after (.spot 3 0) parked).converter.spot := by decide +kernel

/-- CurveCommandsStoreAndClear: a count that differs; codes and counts past their ends; points that ascend and that do not
once clamped; a curve that holds points and an empty one. -/
theorem test_witness_curves :
    base.ready ∧ ([] : List (Word × Half)).length ≠ (1 : Byte).toNat ∧ 8 ≤ (8 : Byte).toNat ∧ (1 : Byte).toNat < 2
      ∧ 9 < (10 : Byte).toNat ∧ channelKindOf 0 = some .fuel
      ∧ [((30000 : Nat), (1 : Int)), (30000, 2)].Pairwise (fun p q => p.1 < q.1) = False
      ∧ (after (.curveWrite 7 0 2 [(1, 5), (2, 6)]) base).curves[7] = some { kind := .fuel, points := [(1, 5), (2, 6)] }
      ∧ (after (.curveWrite 7 0 2 [(30001, 5), (40000, 6)]) base).curves[7] = none ∧ base.curves[7] = none :=
  ⟨ready_base, by decide, by decide, by decide, by decide, by decide, by simp, by decide +kernel⟩

/-- CurveChangeRestartsBoundRecords: a bay bound to the curve and one that is not. -/
theorem test_witness_curveChange :
    parked.fuelBound 0 3 = true ∧ parked.fuelBound 1 3 = false ∧ parked.fuelBound 0 4 = false
      ∧ ((parked.modCond 3 (fun c => { c with fuelLow := true })).conditions[3]).fuelLow = true := by decide +kernel

/-- CurveReadsInStraightLines: at the first point, at the last, and between two; each reason for no value. -/
theorem test_witness_curveReads :
    curve34.Pairwise (fun p q => p.1 < q.1) ∧ readPoints 100 curve34 = some 3000 ∧ readPoints 3000 curve34 = some 0
      ∧ readPoints 2400 curve34 = some 560 ∧ readPoints 2399 curve34 = some 561 ∧ base.curves[0] = none
      ∧ (let s := { base with curves := base.curves.set 0 (some { kind := .probe, points := curve34 }) }
         s.readCurve .fuel (some 0) 100 = none ∧ s.readCurve .probe (some 0) 100 = some 3000) := by
  refine ⟨?_, by decide +kernel⟩
  decide

/-- Bay 3 with a settled door and the curve of Table 34 at curve 0. -/
def settledBay : State :=
  { (serving fueled7).modDoor 3 (fun d => { d with figures := { d.figures with state := .shut } }) with
    curves := base.curves.set 0 (some { kind := .fuel, points := curve34 }) }

/-- FuelResultFiltersAndJudges: not settled by its door and by its count; settled without a value and with one. -/
theorem test_witness_fuelResult :
    parked.bays[3].ref = some 0 ∧ parked.doors[3].figures.state ≠ .shut
      ∧ (heating.modDoor 3 (fun d => { d with settle := 1 })).doors[3].settle ≠ 0
      ∧ heating.doors[3].settle = 0 ∧ heating.readCurve .fuel (some 0) 2349 = none
      ∧ settledBay.readCurve .fuel (some 0) 2349 = some 614 ∧ settledBay.bays[3].ref = some 0
      ∧ ((fuelResult 3 2349 settledBay).recordAt 3).map (·.fuel.filtered) = some (some 633) := by decide +kernel

/-- ErrorsAndProbeResults: error runs one short of their limits and at them; a probe result below the termination
temperature and at it. -/
theorem test_witness_errors :
    let once := fuelError 3 .opened (fuelError 3 .opened parked)
    parked.bays[3].ref = some 0 ∧ (once.recordAt 3).map (·.fuel.errorRun) = some 2
      ∧ ((fuelError 3 .opened once).conditions[3]).senderFault = true
      ∧ ((probeError 3 .opened parked).conditions[3]).probeFault = false
      ∧ ((probeError 3 .opened (probeError 3 .opened parked)).conditions[3]).probeFault = true
      ∧ parked7.settings.termination = 120 ∧ (119 : Int) < 120 := by decide +kernel

/-- CheckPointShedsAndRestores: the criterion missed and met at 900 mV, with a grant and without. -/
theorem test_witness_checkPoint :
    base.feeder.sagLevel = 0 ∧ (899 < 790 + 10 * 11) ∧ ¬ (900 < 790 + 10 * 11) ∧ base.feeder.grants = []
      ∧ base.timer.points.check = .outstanding ∧ base.timer.inForce.checkAt ≤ base.timer.inForce.grantAt
      ∧ base.timer.inForce.checkAt ≤ base.timer.inForce.sweepAt
      ∧ heating.feeder.grants = [] ++ [{ bay := 3, load := 2, round := 0 }] ∧ heating.bays[3].ref = some 0
      ∧ (heating.recordAt 3).map (·.defrost.state) = some (.heating .normal) := by decide +kernel

/-- Trailer 7 WAITING at bay 3 with power good and its door SHUT, and `units` units. -/
def waiting (units : Nat) : State :=
  (((defrosting (fun d => { d with state := .waiting .normal })).modDoor 3
    (fun d => { d with figures := { d.figures with state := .shut } })).modBay 3
      (fun x => { x with powerGood := true, wait := none })).modFeeder (fun f => { f with units := units })

/-- GrantWalkServesByClassAndRank: a request not eligible, one that does not fit 1 unit, and one that fits 2. -/
theorem test_witness_grantWalk :
    (waiting 2).resetting = none ∧ (waiting 2).bays[3].ref = some 0 ∧ eligible (waiting 2) 3 = true
      ∧ eligible ((waiting 2).modBay 3 (fun x => { x with powerGood := false })) 3 = false
      ∧ requestOrder (waiting 2) = [3] ∧ (only .grant (waiting 2)).timer.points.grant = .outstanding ∧ (after .grantPoint (waiting 1)).feeder.grants = []
      ∧ (after .grantPoint (waiting 2)).feeder.grants = [{ bay := 3, load := 2, round := 0 }]
      ∧ (after .grantPoint (waiting 2)).feeder.rank[3] = 0 := by decide +kernel

/-- FeederUnitsShedWhatNoLongerFits: a capacity that fits the grants and one that does not. -/
theorem test_witness_feederUnits :
    heating.ready ∧ (after (.setFeederUnits 2) heating).feeder.grants = heating.feeder.grants
      ∧ (after (.setFeederUnits 1) heating).feeder.grants = []
      ∧ (after (.setFeederUnits 1) heating).feeder.shed = 0 :=
  ⟨⟨rfl, rfl⟩, by decide +kernel⟩

/-- RoundSettingsAreStoredForTheNextRound: a value below, inside and above each range. -/
theorem test_witness_roundSettings :
    base.ready ∧ (after (.setRoundMs 499) base).timer.stored.roundMs = 500
      ∧ (after (.setRoundMs 2001) base).timer.stored.roundMs = 2000
      ∧ (after (.setGrantAt 999) base).timer.stored.grantAt = 999
      ∧ (after (.setSweepAt 1000) base).timer.stored.sweepAt = 999
      ∧ (after (.setCheckAt 1000) base).timer.inForce.checkAt = 20 :=
  ⟨ready_base, by decide +kernel⟩

/-- SettingsAreClampedStoredAndEchoed: each GUARD code, and values at the ends of ranges. -/
theorem test_witness_plainSettings :
    base.ready ∧ (after (.setGuard 0) base).guard = .off ∧ (after (.setGuard 1) base).guard = .opening
      ∧ (after (.setGuard 2) base).guard = .any ∧ 2 < (3 : Word).toNat
      ∧ (after (.setReserveMs 9) base).converter.reserveMs = 10 ∧ (after (.setFuelEvery 601) base).converter.fuelEvery = 600
      ∧ (after (.setProbeEvery 0) base).converter.probeEvery = 1 ∧ (after (.setSmoothShift 5) base).smoothShift = 4
      ∧ (after (.setSagLevel 16) base).feeder.sagLevel = 15 ∧ (after (.setSettleRounds 601) base).settleRounds = 600
      ∧ (after (.setRestoreRounds 0) base).feeder.restoreRounds = 1
      ∧ (after (.setPowerGoodMs 650) base).powerGoodMs = 700 :=
  ⟨ready_base, by decide +kernel⟩

/-- The notice unit with a slot of OVERCURRENT at bay 3 in a delivery state. -/
def noticeIn (d : Delivery) (present : Bool) : Notices :=
  Notices.reset.putSlot (.bay .overcurrent 3) { delivery := d, present := present, trailer := some 7, value := none }

/-- A raise in round 0 with class HIGH. -/
def raiseHigh : RaiseInfo := { round := 0, cls := .high }

/-- ReportsChangeTheirSlot: a MASKED route, and each delivery state. -/
theorem test_witness_reports :
    (Notices.reset.putRoute .feederSag { masked := true, cls := .high }).route .feederSag = { masked := true, cls := .high }
      ∧ (Notices.reset.route .feederSag).masked = false
      ∧ (Notices.reset.slot (.bay .overcurrent 3)).delivery = .idle
      ∧ ((noticeIn (.raised raiseHigh (some 255) true) false).slot (.bay .overcurrent 3)).delivery
          = .raised raiseHigh (some 255) true
      ∧ ((noticeIn (.raised raiseHigh none false) true).slot (.bay .overcurrent 3)).delivery = .raised raiseHigh none false
      ∧ ((noticeIn (.taken raiseHigh) true).slot (.bay .overcurrent 3)).delivery = .taken raiseHigh
      ∧ ((noticeIn (.acked raiseHigh) true).slot (.bay .overcurrent 3)).delivery = .acked raiseHigh := by decide +kernel

/-- KeysEnterBehindTheirClass: a full queue and one with a place; no waiting key, and a waiting key that is the first. -/
theorem test_witness_queue :
    24 ≤ (Notices.reset.setQueue (List.replicate 24 .feederSag)).queue.length
      ∧ (Notices.reset.setQueue (List.replicate 23 .feederSag)).queue.length < 24
      ∧ (Key.bay .left 3) ∉ Notices.reset.queue ∧ Notices.reset.firstWaiting 0 = none
      ∧ (noticeIn (.raised raiseHigh none false) true).waitingInfo (.bay .overcurrent 3) = some raiseHigh
      ∧ (noticeIn (.raised raiseHigh none false) true).firstWaiting 0 = some (.bay .overcurrent 3) := by decide +kernel

/-- A part whose delivery queue holds OVERCURRENT at bay 3. -/
def noticed : State := { base with notices := (noticeIn (.raised raiseHigh none true) true).setQueue [.bay .overcurrent 3] }

/-- TakeDeliversTheHead: an empty queue, and a condition at the head. -/
theorem test_witness_take :
    base.ready ∧ noticed.ready ∧ base.notices.queue = [] ∧ noticed.notices.queue = .bay .overcurrent 3 :: []
      ∧ (noticed.notices.slot (.bay .overcurrent 3)).delivery = .raised raiseHigh none true
      ∧ ((after .take noticed).notices.slot (.bay .overcurrent 3)).delivery = .taken raiseHigh :=
  ⟨ready_base, ⟨rfl, rfl⟩, by decide +kernel⟩

/-- AckSettlesATakenCondition: codes past their ends, an event kind, a slot not TAKEN, and TAKEN slots present and not. -/
theorem test_witness_ack :
    base.ready ∧ (Key.bay .overcurrent 3).kind.index.val + 1 = (6 : Byte).toNat
      ∧ (Key.bay .overcurrent 3).position = (3 : Byte).toNat ∧ (Key.bay .parked 3).kind.isCondition = false
      ∧ (Key.bay .overcurrent 3).kind.isCondition = true ∧ (base.notices.slot (.bay .overcurrent 3)).delivery = .idle
      ∧ (∀ k ∈ allKeys, k.kind.index.val + 1 = (16 : Byte).toNat → k.position ≠ (15 : Byte).toNat)
      ∧ ((after (.ack 6 3) { base with notices := noticeIn (.taken raiseHigh) true }).notices.slot
          (.bay .overcurrent 3)).delivery = .acked raiseHigh
      ∧ ((after (.ack 6 3) { base with notices := noticeIn (.taken raiseHigh) false }).notices.slot
          (.bay .overcurrent 3)).delivery = .idle
      ∧ ((noticeIn (.acked raiseHigh) true).slot (.bay .overcurrent 3)).delivery = .acked raiseHigh
      ∧ (((noticeIn (.acked raiseHigh) true).cease 0 (.bay .overcurrent 3)).slot (.bay .overcurrent 3)).delivery = .idle :=
  ⟨ready_base, by decide +kernel⟩

/-- RouteSetStoresAndActs: codes past their ends; the mask kept; a masking and an unmasking of a condition kind. -/
theorem test_witness_routeSet :
    noticed.ready ∧ 16 < (17 : Byte).toNat ∧ 1 < (2 : Byte).toNat
      ∧ (Kind.bay .overcurrent).index.val + 1 = (6 : Byte).toNat ∧ (noticed.notices.route (.bay .overcurrent)).masked = false
      ∧ (Kind.bay .parked).isCondition = false ∧ (Kind.bay .overcurrent).isCondition = true
      ∧ (after (.routeSet 6 1 1) noticed).notices.queue = []
      ∧ ((after (.routeSet 6 1 1) noticed).notices.route (.bay .overcurrent)).masked = true :=
  ⟨⟨rfl, rfl⟩, by decide +kernel⟩

/-- RoundStartOpensTheRound: every point come; the check point first of those still to come; a point behind it, and one
with none before it; a point come with a stored offset of 0; a bay not SERVING, and one SERVING with countdowns of 0, 1
and 2. -/
theorem test_witness_roundStart :
    base.resetting = none ∧ [(3 : Bay), 5].Nodup ∧ base.bays[3].state ≠ .serving ∧ parked.bays[3].state = .serving
      ∧ (noPoint base).timer.points = .allTaken ∧ base.timer.nextPoint 1000 = some .check
      ∧ (after (.checkPoint 1000) base).timer.nextPoint 1000 = some .grant ∧ base.timer.inForce.checkAt < 1000
      ∧ base.timer.inForce.checkAt < base.timer.inForce.grantAt ∧ (only .sweep base).timer.nextPoint 1000 = some .sweep
      ∧ (let s := (noPoint base).modTimer (fun t => { t with stored := { t.stored with checkAt := 0 } })
         (after (.checkPoint 1000) s).timer.points.check = .takenAhead
           ∧ (openRound (after (.checkPoint 1000) s)).feeder.comparatorOn = false)
      ∧ (openRound (noPoint base)).feeder.comparatorOn = true
      ∧ (channelRound 3 parked).converter.channel ⟨3, .fuel⟩ = { countdown := 0, due := none }
      ∧ (let s (n : Nat) : State := parked.modConverter (Converter.modChannel ⟨3, .fuel⟩ (fun x => { x with countdown := n }))
         (channelRound 3 (s 2)).converter.channel ⟨3, .fuel⟩ = { countdown := 1, due := none }
           ∧ (channelRound 3 (s 1)).converter.channel ⟨3, .fuel⟩ = { countdown := 60, due := some 0 }) := by decide +kernel

/-- RoundStartPartsActAtTheirCount: each count one step from its end. -/
theorem test_witness_roundStartParts :
    (let s := parked.modConverter (Converter.modChannel ⟨3, .probe⟩ (fun x => { x with countdown := 1 }))
     s.bays[3].state = .serving ∧ (s.converter.channel ⟨3, .probe⟩).countdown = 1)
      ∧ figures (after (.intervalExpiry 3) (defrosting (fun d => { d with intervalCount := 1 })))
          = some { parked7.defrost with state := .waiting .normal }
      ∧ figures (after (.expiryInWaiting 3) (defrosting (fun d => { d with state := .waiting .normal, intervalCount := 1 })))
          = some { parked7.defrost with state := .waiting .urgent }
      ∧ (figures (after (.endByMaximum 3) (defrosting (fun d => { d with state := .heating .normal, heatRounds := 2699 })))).map
          (·.state) = some .dripping
      ∧ figures (after (.dripEnd 3) (defrosting (fun d => { d with state := .dripping, dripCount := 1 })))
          = some parked7.defrost := by decide +kernel

/-- StepKeepsTheRangesOfTheTables, StepKeepsTheFeederArbiter, StepKeepsPowerWithService: trailer 7 parked, and the step that
follows. -/
theorem test_witness_ranges :
    TimerInv parked ∧ SettingsInv parked ∧ FuelInv parked ∧ CurvesInv parked ∧ RankInv parked ∧ BudgetInv parked
      ∧ PowerInv parked ∧ step parked = .next (idleTick parked) := by
  refine ⟨⟨?_, ?_, by decide, by decide, by decide, ?_⟩, ?_, ?_, ?_, ?_, ?_, ?_, step_of_nil rfl (by decide +kernel)⟩
  · unfold RoundSettings.ok; decide
  · unfold RoundSettings.ok; decide
  · intro p; cases p <;> decide
  · unfold SettingsInv; decide +kernel
  · unfold FuelInv; decide +kernel
  · have h : ∀ c : Fin 8, parked.curves[c] = none := by decide +kernel
    intro c v hv
    rw [h c] at hv
    cases hv
  · unfold RankInv; decide +kernel
  · unfold BudgetInv; decide +kernel
  · unfold PowerInv; decide +kernel

/-- StepKeepsTheRangesOfTheTables: a curve of the store, and points past its ranges. -/
theorem test_witness_curveOk :
    ({ kind := .fuel, points := [(0, 20000), (30000, 0)] } : Curve).ok ∧ ¬ pointOk .fuel (30001, 0)
      ∧ ¬ pointOk .probe (0, 1501) := by
  unfold Curve.ok pointOk; decide

/-- StepKeepsTheRangesOfTheTables: the figures of trailer 7 and of every bay. -/
theorem test_witness_figures : FiguresInv parked := by
  refine ⟨?_, ?_, by decide⟩
  · have h : ∀ i : SlotIx, parked.table[i] = if i = 0 then some parked7 else none := by decide +kernel
    intro i r hr
    rw [h i] at hr
    split at hr
    · cases hr
      refine ⟨?_, ?_, ?_, ⟨by decide, by decide, by decide, by decide, ?_⟩, ?_⟩
      · unfold Settings.ok; decide
      · unfold FuelFigures.ok; decide
      · unfold ProbeFigures.ok; decide
      · intro g hg; cases hg
      · unfold DoorFigures.ok; decide
    · cases hr
  · unfold DoorFigures.ok Line.ok; decide +kernel

/-- StepKeepsTheRangesOfTheTables: the converter with nothing to do. -/
theorem test_witness_converter : ConverterInv parked := by
  have h : ∀ ch : Channel, parked.converter.channel ch = { countdown := 0, due := none } := by
    rintro ⟨b, k⟩; revert b; cases k <;> decide +kernel
  refine ⟨trivial, by decide, trivial, ?_, by decide, by decide, ?_, fun _ => rfl, ?_⟩
  · intro ch; rw [h]; exact Nat.zero_le _
  · intro l hl; cases hl
  · intro ch _
    refine ⟨by rw [h], ?_, ?_, ?_⟩
    · intro hm; cases hm
    · intro l hl; cases hl
    · intro he; cases he

/-- Every slot of a part with no notice is at rest. -/
theorem slot_parked (k : Key) : parked.notices.slot k = Slot.reset := by
  show (Vector.replicate 241 Slot.reset)[k.index] = Slot.reset
  simp

/-- StepKeepsTheDeliveryQueue: trailer 7 parked. -/
theorem test_witness_deliveryQueue : AttnInv parked ∧ NoticesInv parked := by
  refine ⟨by unfold AttnInv; decide, by decide, by decide, by decide, by decide, fun k => ?_⟩
  show Notices.slotOk parked.notices k
  rw [Notices.slotOk, slot_parked]
  exact .inr rfl

/-- StepKeepsTheRegistry: trailer 7 parked at bay 3, every other bay EMPTY. -/
theorem test_witness_registry : RegistryInv parked := by
  refine ⟨?_, ?_, ?_, ?_⟩
  · unfold NumbersUnique; decide +kernel
  · unfold RefsParked; decide +kernel
  · have h : ∀ b : Bay, (if b = 3 then parked.bays[b].state = .serving ∧ parked.bays[b].ref.isSome = true
        ∧ parked.bays[b].connected = true else parked.bays[b].state = .empty ∧ parked.bays[b].ref = none
        ∧ parked.bays[b].connected = false) := by decide +kernel
    intro b
    have hb := h b
    split at hb
    · rw [BayCtl.coherent, hb.1]; exact hb.2
    · rw [BayCtl.coherent, hb.1]; exact hb.2
  · unfold QueueIdentifies; decide +kernel

/-- StepKeepsHeatWithGrants, StepKeepsPresenceWithSources, StepKeepsTheDoorCopy: trailer 7 parked. -/
theorem test_witness_sources : HeatInv parked ∧ PresenceInv parked ∧ DoorInv parked := by
  refine ⟨?_, ⟨?_, ?_, ?_, ?_⟩, ?_⟩
  · unfold HeatInv; decide +kernel
  · intro k b
    rw [slot_parked]
    revert b
    cases k <;> decide +kernel
  · rw [slot_parked]; decide
  · decide +kernel
  · decide +kernel
  · unfold DoorInv; decide +kernel

end Sys2Proof.Tests
end

namespace Sys2Proof.Machine

/-! # Values after a reset, and the invariants that hold there -/

theorem reset_bays (b : Bay) : State.reset.bays[b] = BayCtl.reset := by simp [State.reset]
theorem reset_doors (b : Bay) : State.reset.doors[b] = DoorWatch.unwatched := by simp [State.reset]
theorem reset_heat (b : Bay) : State.reset.heat[b] = false := by simp [State.reset]
theorem reset_conditions (b : Bay) : State.reset.conditions[b] = Conditions.none := by simp [State.reset]
theorem reset_table (i : SlotIx) : State.reset.table[i] = none := by simp [State.reset]
theorem reset_curves (c : Fin 8) : State.reset.curves[c] = none := by simp [State.reset]
theorem reset_rank (b : Bay) : State.reset.feeder.rank[b] = b.val := by simp [State.reset, Feeder.reset]

/-- R155: every slot of the notice unit is at rest. -/
theorem reset_slot (k : Key) : State.reset.notices.slot k = Slot.reset := by
  simp [State.reset, Notices.reset, Notices.slot]

/-- R156: the route of a kind at a bay has the class of Table 49. -/
theorem reset_route (k : BayKind) : State.reset.notices.route (.bay k) = Route.reset k.defaultClass := by
  cases k <;> rfl

theorem reset_channel (ch : Channel) : State.reset.converter.channel ch = ChannelCtl.reset := by
  obtain ⟨b, k⟩ := ch
  cases k <;> simp [State.reset, Converter.reset, Converter.channel, BayChannels.get]

/-- R1: no slot holds a record. -/
theorem reset_no_record {i : SlotIx} {r : Record} (h : r ∈ State.reset.table[i]) : False := by
  rw [reset_table] at h; cases h

/-- A bay refers to no record. -/
theorem reset_recordAt (b : Bay) : State.reset.recordAt b = none :=
  State.recordAt_of_no_ref (by rw [reset_bays]; rfl)

theorem timerInv_reset : TimerInv State.reset := by
  refine ⟨by simp [State.reset, Timer.reset, RoundSettings.ok, RoundSettings.default],
    by simp [State.reset, Timer.reset, RoundSettings.ok, RoundSettings.default], Nat.zero_le _, by decide, by decide, ?_⟩
  intro p
  cases p <;> simp [State.reset, Timer.reset, Points.allTaken, Points.get]

theorem settingsInv_reset : SettingsInv State.reset := by
  simp [SettingsInv, State.reset, Converter.reset, Feeder.reset]

theorem rankInv_reset : RankInv State.reset := by
  refine ⟨fun b => ?_, fun b c h => ?_⟩
  · rw [reset_rank]; exact b.isLt
  · rw [reset_rank, reset_rank] at h; exact Fin.ext h

theorem budgetInv_reset : BudgetInv State.reset := Nat.le_refl 0

theorem powerInv_reset : PowerInv State.reset := by
  refine ⟨by decide, fun b => ?_⟩
  rw [reset_bays]
  simp [BayCtl.reset]

theorem noticesInv_reset : NoticesInv State.reset := by
  refine ⟨Nat.zero_le _, List.nodup_nil, fun k hk => (by cases hk), fun k hk => (by cases hk), fun k => ?_⟩
  simp only [Notices.slotOk, reset_slot, Slot.reset, or_true]

theorem fuelInv_reset : FuelInv State.reset := by
  exact fun i r hr => (reset_no_record hr).elim

theorem registryInv_reset : RegistryInv State.reset := by
  refine ⟨⟨?_, ?_⟩, ?_, ?_, List.nodup_nil, ?_, ?_⟩
  · exact fun i r hr => (reset_no_record hr).elim
  · exact fun i j r hr => (reset_no_record hr).elim
  · intro b i; rw [reset_bays, reset_table]; simp [BayCtl.reset]
  · intro b; rw [reset_bays]; exact ⟨rfl, rfl⟩
  · intro b; rw [reset_bays]; simp [State.reset, Reader.reset, BayCtl.reset]
  · simp [State.reset, Reader.reset]

theorem readerInv_reset : ReaderInv State.reset := rfl

theorem heatInv_reset : HeatInv State.reset := by
  refine ⟨fun b => ?_, List.nodup_nil, ?_⟩
  · have hb : State.reset.heatingAt b = false := by simp [State.heatingAt, reset_recordAt]
    rw [hb, reset_heat]; simp [State.reset, Feeder.reset]
  · exact fun i r hr => (reset_no_record hr).elim

theorem presenceInv_reset : PresenceInv State.reset := by
  refine ⟨fun k b => ?_, ?_, fun b _ => reset_conditions b, fun b _ => by rw [reset_doors]; rfl⟩
  · rw [reset_slot]
    cases k <;> simp only [State.holds, reset_bays, reset_conditions, reset_doors] <;> rfl
  · rw [reset_slot]; rfl

theorem doorInv_reset : DoorInv State.reset := by
  refine ⟨fun b _ => reset_doors b, fun b r hr => ?_⟩
  simp [reset_recordAt] at hr

theorem curvesInv_reset : CurvesInv State.reset := by
  intro c v hv; rw [reset_curves] at hv; cases hv

theorem figuresInv_reset : FiguresInv State.reset := by
  refine ⟨fun i r hr => (reset_no_record hr).elim, fun b => ?_, Nat.zero_le _⟩
  rw [reset_doors, reset_bays]
  simp [BayCtl.reset, DoorWatch.unwatched, DoorFigures.unwatched, DoorFigures.ok, Line.none, Line.ok]

theorem converterInv_reset : ConverterInv State.reset := by
  refine ⟨trivial, Nat.zero_le _, trivial, fun ch => ?_, Nat.zero_le _, List.nodup_nil, fun l hl => (by cases hl),
    fun _ => rfl, fun ch _ => ⟨?_, ?_, fun l hl => (by cases hl), ?_⟩⟩
  · rw [reset_channel]; exact Nat.zero_le _
  · rw [reset_channel]; rfl
  · exact List.not_mem_nil
  · simp [State.reset, Converter.reset, Stage.channel]

/-- Settles O11: field by field from the reset values, and each invariant by its own lemma. -/
theorem resetLeavesTheStatedValues : Obligations.ResetLeavesTheStatedValues :=
  ⟨⟨rfl, rfl⟩, reset_bays, ⟨rfl, rfl⟩, ⟨rfl, rfl, rfl, rfl, rfl, rfl, reset_channel⟩, ⟨reset_table, reset_curves⟩,
    fun b => ⟨reset_doors b, reset_heat b, reset_conditions b, reset_rank b⟩, ⟨rfl, rfl, rfl, rfl, rfl, rfl, rfl⟩,
    ⟨reset_slot, reset_route, rfl, rfl, rfl⟩, ⟨rfl, rfl, rfl⟩, ⟨rfl, rfl, rfl, rfl⟩,
    timerInv_reset, settingsInv_reset, rankInv_reset, budgetInv_reset, powerInv_reset, rfl, noticesInv_reset,
    fuelInv_reset, registryInv_reset, readerInv_reset, heatInv_reset, presenceInv_reset, doorInv_reset, curvesInv_reset,
    figuresInv_reset, converterInv_reset⟩

/-! # A failed judgement without a head (log 23) -/

/-- A read with an empty identify queue: the third attempt, its five bytes stored and failing their check, stands at the
beginning of slot 0. The ranges of the tables allow it; `QueueIdentifies`, which O53 does not assume, does not. -/
def headlessRead : State :=
  { State.reset with
    resetting := none
    reader := { state := .attempt 3 0 (.bits 600 0 0 0 [0, 0, 0, 0, 1]), queue := [], ahead := 600 }
    pending := [.attemptJudged] }

/-- The judgement of the headless read fails it, brings it to the end of slot 39, and finds no bay to deliver to. -/
theorem step_headlessRead :
    step headlessRead = .next { headlessRead with
      reader := { state := .attempt 3 0 (.bits 600 0 0 0 [0, 0, 0, 0, 1]), queue := [], ahead := 10600 }
      pending := [] } := by
  have judged : Reader.judge [0, 0, 0, 0, 1] = none := by decide +kernel
  show whenRunning { headlessRead with pending := [] } attemptJudged = _
  rw [whenRunning_of_none rfl]
  simp only [attemptJudged, headlessRead, judged]
  rfl

/-- Refutes O53: `ReaderInv` is not kept at `headlessRead`. The third failed judgement brings the read to the end of slot
39, and with no head to deliver to the attempt stays, its slot number still 0. -/
theorem not_stepKeepsTheRangesOfTheTables : ¬ Obligations.StepKeepsTheRangesOfTheTables := by
  intro h
  have kept := h headlessRead _ timerInv_reset settingsInv_reset curvesInv_reset figuresInv_reset fuelInv_reset
    (by simp [ReaderInv, headlessRead, Reader.instant, State.reset, Timer.reset]) step_headlessRead
  obtain ⟨_, _, _, _, _, hreader, _⟩ := kept
  have hslot : 0 = min 39 ((10600 - 600) / 250) := ((ReaderInv.of_bits rfl).1 hreader).2.2.2.2.2.1
  exact absurd hslot (by decide)
end Sys2Proof.Machine

namespace Sys2Proof.Machine

/-! # Present flags of the notice slots (R159 to R165)

Only a present report and a cease report change a flag, and only that of their key. -/

namespace Notices

/-- The present flag of a key's slot. -/
def flag (n : Notices) (k : Key) : Bool := (n.slot k).present

theorem flag_putSlot (n : Notices) (k l : Key) (v : Slot) :
    (n.putSlot k v).flag l = if l = k then v.present else n.flag l := by
  unfold flag; rw [slot_putSlot]; split <;> rfl

/-- A slot put with the flag it has changes none. -/
theorem flag_putSlot_of_eq {n : Notices} {k : Key} {v : Slot} (h : v.present = (n.slot k).present) (l : Key) :
    (n.putSlot k v).flag l = n.flag l := by
  rw [flag_putSlot]; split
  · next e => rw [e, h]; rfl
  · rfl

@[simp] theorem flag_setQueue (n : Notices) (q : List Key) (l : Key) : (n.setQueue q).flag l = n.flag l := rfl
@[simp] theorem flag_putRoute (n : Notices) (k : Kind) (r : Route) (l : Key) : (n.putRoute k r).flag l = n.flag l := rfl
@[simp] theorem flag_enter (n : Notices) (k l : Key) : (n.enter k).flag l = n.flag l := by unfold flag; rw [slot_enter]

@[simp] theorem flag_markQueued (n : Notices) (k l : Key) : (n.markQueued k).flag l = n.flag l := by
  unfold markQueued; split
  · exact flag_putSlot_of_eq (by rfl) l
  all_goals rfl

@[simp] theorem flag_refill (now : Round) (n : Notices) (l : Key) : (n.refill now).flag l = n.flag l := by
  unfold refill; split <;> simp

@[simp] theorem flag_leaveQueue (now : Round) (k : Key) (n : Notices) (l : Key) :
    (n.leaveQueue now k).flag l = n.flag l := by
  simp [leaveQueue]

@[simp] theorem flag_store (k : Key) (t : Option TrailerNo) (v : Option NoticeValue) (n : Notices) (l : Key) :
    (n.store k t v).flag l = n.flag l := flag_putSlot_of_eq (by rfl) l

@[simp] theorem flag_becomeRaised (now : Round) (k : Key) (c : Option Nat) (n : Notices) (l : Key) :
    (n.becomeRaised now k c).flag l = n.flag l := by
  simp only [becomeRaised]; split
  · rw [flag_enter]; exact flag_putSlot_of_eq (by rfl) l
  · exact flag_putSlot_of_eq (by rfl) l

/-- R159: a raise report changes no flag. -/
@[simp] theorem flag_raise (now : Round) (k : Key) (t : Option TrailerNo) (v : Option NoticeValue) (n : Notices) (l : Key) :
    (n.raise now k t v).flag l = n.flag l := by
  unfold raise; split
  · rfl
  · split
    · simp
    · exact flag_putSlot_of_eq (by rfl) l
    all_goals rfl

@[simp] theorem flag_withdraw (now : Round) (k : Key) (n : Notices) (l : Key) : (n.withdraw now k).flag l = n.flag l := by
  unfold withdraw; split
  · rw [flag_leaveQueue]; exact flag_putSlot_of_eq (by rfl) l
  · exact flag_putSlot_of_eq (by rfl) l
  all_goals rfl

/-- R160: a present report sets the flag of its key. -/
@[simp] theorem flag_present (now : Round) (k : Key) (t : Option TrailerNo) (v : Option NoticeValue) (n : Notices) (l : Key) :
    (n.present now k t v).flag l = if l = k then true else n.flag l := by
  simp only [present]; split
  · split
    · exact flag_putSlot n k l _
    · rw [flag_becomeRaised]; exact flag_putSlot n k l _
  all_goals exact flag_putSlot n k l _

/-- R161: a cease report takes the flag of its key back. -/
@[simp] theorem flag_cease (now : Round) (k : Key) (n : Notices) (l : Key) :
    (n.cease now k).flag l = if l = k then false else n.flag l := by
  simp only [cease]; split
  · rw [flag_withdraw]; exact flag_putSlot n k l _
  · rw [flag_putSlot_of_eq (by rfl)]; exact flag_putSlot n k l _
  all_goals exact flag_putSlot n k l _

/-- R162: TAKE changes no flag. -/
@[simp] theorem flag_take (now : Round) (n : Notices) (l : Key) : (n.take now).1.flag l = n.flag l := by
  unfold take; split
  · rfl
  · split
    · simp only [takeHead, flag_leaveQueue]; exact flag_putSlot_of_eq (by rfl) l
    all_goals rfl

/-- R163: ACK changes no flag. -/
@[simp] theorem flag_ack (k : Key) (n : Notices) (l : Key) : (n.ack k).1.flag l = n.flag l := by
  unfold ack; split
  · split
    · exact flag_putSlot_of_eq (by rfl) l
    all_goals rfl
  · rfl

@[simp] theorem flag_unmaskKey (now : Round) (k : Key) (n : Notices) (l : Key) :
    (n.unmaskKey now k).flag l = n.flag l := by
  unfold unmaskKey; split
  · split
    · simp
    · rfl
  all_goals rfl

/-- Work at key after key that changes no flag. -/
theorem flag_foldl {work : Notices → Key → Notices} (h : ∀ n k l, (work n k).flag l = n.flag l) (keys : List Key)
    (n : Notices) (l : Key) : (keys.foldl work n).flag l = n.flag l := by
  induction keys generalizing n with
  | nil => rfl
  | cons k rest ih => rw [List.foldl_cons, ih, h]

/-- R164, R165: a change of a route changes no flag. -/
@[simp] theorem flag_setRoute (now : Round) (k : Kind) (m : Bool) (c : NoticeClass) (n : Notices) (l : Key) :
    (n.setRoute now k m c).flag l = n.flag l := by
  unfold setRoute maskChanged; split
  · split
    · rw [flag_foldl fun n k l => flag_withdraw now k n l, flag_putRoute]
    · rw [flag_foldl fun n k l => flag_unmaskKey now k n l, flag_putRoute]
    all_goals rfl
  · rfl

end Notices

/-! # Quiet work

Most of what the part does leaves alone who stands where and which condition is present. `SameRegistry` says the first,
`Quiet` both; an operation is shown quiet once, and every invariant about these is then kept by it. -/

/-- What the registry knows of a record: its number and the bay it is PARKED at. -/
def Record.key (r : Record) : TrailerNo × Option Bay := (r.number, r.place.bay?)

/-- What the registry knows of a bay: its state, its connection and its reference. -/
def BayCtl.core (x : BayCtl) : BayState × Bool × Option SlotIx := (x.state, x.connected, x.ref)

/-- The records, bays and identify queue of two states agree in what the registry knows of them. -/
structure SameRegistry (s t : State) : Prop where
  records : ∀ i : SlotIx, t.table[i].map Record.key = s.table[i].map Record.key
  bays : ∀ b : Bay, t.bays[b].core = s.bays[b].core
  queue : t.reader.queue = s.reader.queue
  idle : t.reader.state = .idle ↔ s.reader.state = .idle

/-- Two states agree in their registries, in the conditions and in the present flags. -/
structure Quiet (s t : State) : Prop extends SameRegistry s t where
  conditions : t.conditions = s.conditions
  doorLong : ∀ b : Bay, t.doors[b].doorLong = s.doors[b].doorLong
  verdict : t.feeder.verdict = s.feeder.verdict
  flags : ∀ k, t.notices.flag k = s.notices.flag k

theorem SameRegistry.refl (s : State) : SameRegistry s s := ⟨fun _ => rfl, fun _ => rfl, rfl, Iff.rfl⟩

theorem SameRegistry.trans {s t u : State} (h : SameRegistry s t) (g : SameRegistry t u) : SameRegistry s u :=
  ⟨fun i => (g.records i).trans (h.records i), fun b => (g.bays b).trans (h.bays b), g.queue.trans h.queue,
    g.idle.trans h.idle⟩

theorem Quiet.refl (s : State) : Quiet s s := ⟨.refl s, rfl, fun _ => rfl, rfl, fun _ => rfl⟩

theorem Quiet.trans {s t u : State} (h : Quiet s t) (g : Quiet t u) : Quiet s u :=
  ⟨h.toSameRegistry.trans g.toSameRegistry, g.conditions.trans h.conditions,
    fun b => (g.doorLong b).trans (h.doorLong b), g.verdict.trans h.verdict, fun k => (g.flags k).trans (h.flags k)⟩

/-- The state of a bay is the same. -/
theorem SameRegistry.state {s t : State} (h : SameRegistry s t) (b : Bay) : t.bays[b].state = s.bays[b].state :=
  congrArg (·.1) (h.bays b)

theorem SameRegistry.connected {s t : State} (h : SameRegistry s t) (b : Bay) :
    t.bays[b].connected = s.bays[b].connected := congrArg (·.2.1) (h.bays b)

theorem SameRegistry.ref {s t : State} (h : SameRegistry s t) (b : Bay) : t.bays[b].ref = s.bays[b].ref :=
  congrArg (·.2.2) (h.bays b)

/-! ## Operations that are quiet by the fields they touch -/

/-- Work that touches no table, bay, reader, condition or door, and no verdict or flag. -/
theorem Quiet.of_eq {s t : State} (ht : t.table = s.table) (hb : t.bays = s.bays) (hr : t.reader = s.reader)
    (hc : t.conditions = s.conditions) (hd : t.doors = s.doors) (hv : t.feeder.verdict = s.feeder.verdict)
    (hn : ∀ k, t.notices.flag k = s.notices.flag k) : Quiet s t :=
  ⟨⟨fun i => by rw [ht], fun b => by rw [hb], by rw [hr], by rw [hr]⟩, hc, fun b => by rw [hd], hv, hn⟩

theorem quiet_modLink (f : Link → Link) (s : State) : Quiet s (s.modLink f) :=
  .of_eq rfl rfl rfl rfl rfl rfl fun _ => rfl

theorem quiet_modOutside (f : Outside → Outside) (s : State) : Quiet s (s.modOutside f) :=
  .of_eq rfl rfl rfl rfl rfl rfl fun _ => rfl

theorem quiet_modLines (b : Bay) (f : LineSample → LineSample) (s : State) : Quiet s (s.modLines b f) :=
  .of_eq rfl rfl rfl rfl rfl rfl fun _ => rfl

theorem quiet_setTagLine (b : Bay) (high : Bool) (s : State) : Quiet s (s.setTagLine b high) :=
  .of_eq rfl rfl rfl rfl rfl rfl fun _ => rfl

theorem quiet_modTimer (f : Timer → Timer) (s : State) : Quiet s (s.modTimer f) :=
  .of_eq rfl rfl rfl rfl rfl rfl fun _ => rfl

theorem quiet_modConverter (f : Converter → Converter) (s : State) : Quiet s (s.modConverter f) :=
  .of_eq rfl rfl rfl rfl rfl rfl fun _ => rfl

theorem quiet_setHeat (b : Bay) (on : Bool) (s : State) : Quiet s (s.setHeat b on) :=
  .of_eq rfl rfl rfl rfl rfl rfl fun _ => rfl

theorem quiet_raiseAt (k : BayKind) (b : Bay) (n : Option TrailerNo) (v : Option NoticeValue) (s : State) :
    Quiet s (raiseAt k b n v s) :=
  .of_eq rfl rfl rfl rfl rfl rfl fun l => Notices.flag_raise _ _ _ _ _ l

theorem quiet_modFeeder {f : Feeder → Feeder} {s : State} (h : (f s.feeder).verdict = s.feeder.verdict) :
    Quiet s (s.modFeeder f) :=
  .of_eq rfl rfl rfl rfl rfl h fun _ => rfl

theorem quiet_modNotices {f : Notices → Notices} {s : State} (h : ∀ k, (f s.notices).flag k = s.notices.flag k) :
    Quiet s (s.modNotices f) :=
  .of_eq rfl rfl rfl rfl rfl rfl h

/-- A change of a bay that keeps what the registry knows of it. -/
theorem quiet_modBay {b : Bay} {f : BayCtl → BayCtl} (s : State) (h : ∀ x, (f x).core = x.core) : Quiet s (s.modBay b f) := by
  refine ⟨⟨fun _ => rfl, fun c => ?_, rfl, Iff.rfl⟩, rfl, fun _ => rfl, rfl, fun _ => rfl⟩
  rw [State.modBay_bays, vector_set_get]; split
  · next e => rw [h, e]
  · rfl

/-- A change of a door watch that keeps DOOR_LONG. -/
theorem quiet_modDoor {b : Bay} {f : DoorWatch → DoorWatch} {s : State}
    (h : (f s.doors[b]).doorLong = s.doors[b].doorLong) : Quiet s (s.modDoor b f) := by
  refine ⟨⟨fun _ => rfl, fun _ => rfl, rfl, Iff.rfl⟩, rfl, fun c => ?_, rfl, fun _ => rfl⟩
  rw [State.modDoor_doors, vector_set_get]; split
  · next e => rw [h, e]
  · rfl

/-- A change of the reader that keeps its queue and whether it is idle. -/
theorem quiet_modReader {f : Reader → Reader} {s : State} (hq : (f s.reader).queue = s.reader.queue)
    (hi : (f s.reader).state = .idle ↔ s.reader.state = .idle) : Quiet s (s.modReader f) :=
  ⟨⟨fun _ => rfl, fun _ => rfl, hq, hi⟩, rfl, fun _ => rfl, rfl, fun _ => rfl⟩

/-- A slot put with a record of the key it held. -/
theorem quiet_putSlot {s : State} {i : SlotIx} {r r' : Record} (hr : s.table[i] = some r) (h : r'.key = r.key) :
    Quiet s (s.putSlot i (some r')) := by
  refine ⟨⟨fun j => ?_, fun _ => rfl, rfl, Iff.rfl⟩, rfl, fun _ => rfl, rfl, fun _ => rfl⟩
  rw [State.putSlot_table, vector_set_get]; split
  · next e => rw [e, hr, Option.map_some, Option.map_some, h]
  · rfl

/-- A change of the record parked at a bay that keeps its key. -/
theorem quiet_modParked {b : Bay} {f : Record → Record} (s : State) (h : ∀ r, (f r).key = r.key) :
    Quiet s (s.modParked b f) := by
  cases hr : s.bays[b].ref with
  | none => rw [State.modParked_of_no_ref hr]; exact .refl s
  | some i =>
    rw [State.modParked_of_ref hr]
    refine ⟨⟨fun j => ?_, fun _ => rfl, rfl, Iff.rfl⟩, rfl, fun _ => rfl, rfl, fun _ => rfl⟩
    rw [State.modSlot_table, vector_set_get]; split
    · next e => rw [e, Option.map_map]; congr 1; exact funext h
    · rfl

/-- A change of a parked record's defrost figures. -/
theorem quiet_modDefrost (b : Bay) (f : DefrostFigures → DefrostFigures) (s : State) :
    Quiet s (s.modParked b (Record.modDefrost f)) := quiet_modParked s fun _ => rfl

/-- Quiet work at bay after bay. -/
theorem quiet_forBays {work : Bay → State → State} (h : ∀ b s, Quiet s (work b s)) (bays : List Bay) (s : State) :
    Quiet s (forBays work bays s) := by
  induction bays generalizing s with
  | nil => exact .refl s
  | cons b rest ih => exact (h b s).trans (ih (work b s))

/-! ## The defrost cycle is quiet -/

theorem quiet_heatingToWaiting (b : Bay) (s : State) : Quiet s (heatingToWaiting b s) := by
  unfold heatingToWaiting; split
  · exact .refl s
  · split
    · exact (quiet_modDefrost b _ s).trans (quiet_setHeat b false _)
    all_goals exact .refl s

theorem quiet_defrostLeavesServing (b : Bay) (s : State) : Quiet s (defrostLeavesServing b s) :=
  (quiet_heatingToWaiting b s).trans (quiet_modFeeder rfl)

theorem quiet_endHeating (b : Bay) (r : Record) (s : State) : Quiet s (endHeating b r s) :=
  (((quiet_modFeeder rfl).trans (quiet_setHeat b false _)).trans (quiet_modDefrost b _ _)).trans (quiet_raiseAt ..)

theorem quiet_expireIdle (b : Bay) (r : Record) (s : State) : Quiet s (expireIdle b r s) := quiet_modDefrost b _ s

theorem quiet_expireWaiting (b : Bay) (r : Record) (s : State) : Quiet s (expireWaiting b r s) :=
  (quiet_modDefrost b _ s).trans (quiet_raiseAt ..)

theorem quiet_expireHeating (b : Bay) (r : Record) (n : Nat) (s : State) : Quiet s (expireHeating b r n s) :=
  (quiet_raiseAt ..).trans (quiet_endHeating b _ _)

theorem quiet_expireDrip (b : Bay) (r : Record) (s : State) : Quiet s (expireDrip b r s) := quiet_modDefrost b _ s

theorem quiet_defrostRound (b : Bay) (s : State) : Quiet s (defrostRound b s) := by
  unfold defrostRound; split
  · exact .refl s
  · split
    · split
      · split
        · exact quiet_expireIdle b _ s
        · exact quiet_modDefrost b _ s
      · exact .refl s
    · split
      · split
        · exact quiet_expireWaiting b _ s
        · exact quiet_modDefrost b _ s
      · exact .refl s
    · split
      · exact quiet_expireHeating b _ _ s
      · exact quiet_modDefrost b _ s
    · split
      · exact quiet_expireDrip b _ s
      · exact quiet_modDefrost b _ s

theorem quiet_intervalExpiryAt (b : Bay) (s : State) : Quiet s (intervalExpiryAt b s) := by
  unfold intervalExpiryAt; split
  · exact .refl s
  · split
    · split
      · exact quiet_expireIdle b _ s
      · exact .refl s
    all_goals exact .refl s

theorem quiet_expiryInWaitingAt (b : Bay) (s : State) : Quiet s (expiryInWaitingAt b s) := by
  unfold expiryInWaitingAt; split
  · exact .refl s
  · split
    · split
      · exact quiet_expireWaiting b _ s
      · exact .refl s
    all_goals exact .refl s

theorem quiet_endByMaximumAt (b : Bay) (s : State) : Quiet s (endByMaximumAt b s) := by
  unfold endByMaximumAt; split
  · exact .refl s
  · split
    · split
      · exact quiet_expireHeating b _ _ s
      · exact .refl s
    all_goals exact .refl s

theorem quiet_dripEndAt (b : Bay) (s : State) : Quiet s (dripEndAt b s) := by
  unfold dripEndAt; split
  · exact .refl s
  · split
    · split
      · exact quiet_expireDrip b _ s
      · exact .refl s
    all_goals exact .refl s

/-- R137: the walk over the requests. -/
theorem quiet_grantWalk (l : List Bay) (s : State) : Quiet s (grantWalk l s) := by
  induction l generalizing s with
  | nil => exact .refl s
  | cons b rest ih =>
    unfold grantWalk; split
    · split
      · exact ih s
      · split
        · exact (((quiet_modFeeder rfl).trans (quiet_modDefrost b _ _)).trans (quiet_setHeat b true _)).trans (ih _)
        · exact .refl s
    · exact ih s

/-! ## The rest that is quiet -/

/-- R75: the channel countdowns of a bay. -/
theorem quiet_channelRound (b : Bay) (s : State) : Quiet s (channelRound b s) := by
  unfold channelRound; split
  · exact (quiet_modConverter _ s).trans (quiet_modConverter _ _)
  · exact .refl s

theorem quiet_openRound (s : State) : Quiet s (openRound s) :=
  ((quiet_modTimer _ s).trans (quiet_modConverter _ _)).trans (quiet_modFeeder rfl)

/-- R152: a change of door figures with the record's copy. -/
theorem quiet_modFigures (b : Bay) (f : DoorFigures → DoorFigures) (s : State) : Quiet s (modFigures b f s) :=
  (quiet_modDoor rfl).trans (quiet_modParked _ fun _ => rfl)

theorem quiet_doorCounts (b : Bay) (s : State) : Quiet s (doorCounts b s) := by
  unfold doorCounts; split
  · exact quiet_modFigures b _ s
  · exact quiet_modDoor rfl
  · exact .refl s

theorem quiet_guardEvent (asked : Bool) (b : Bay) (s : State) : Quiet s (guardEvent asked b s) := by
  unfold guardEvent; split
  · exact quiet_raiseAt ..
  · exact .refl s

theorem quiet_acceptOpen (b : Bay) (s : State) : Quiet s (acceptOpen b s) := by
  unfold acceptOpen; split
  · exact ((quiet_modDoor (f := fun d => { d with settle := 0 }) rfl).trans (quiet_modFigures b _ _)).trans
      (quiet_guardEvent _ b _)
  · exact quiet_modFigures b _ s
  · exact .refl s

theorem quiet_acceptRun (b : Bay) (active : Bool) (s : State) : Quiet s (acceptRun b active s) := quiet_modDoor rfl

theorem quiet_powerGoodWaitEnd (b : Bay) (s : State) : Quiet s (powerGoodWaitEnd b s) := by
  unfold powerGoodWaitEnd; split
  · exact quiet_modBay s fun _ => rfl
  · exact .refl s

/-- R28, R43: a millisecond moves the waits and the round remaining alone. -/
theorem quiet_millisecond (s : State) : Quiet s (millisecond s) := by
  refine ⟨⟨fun _ => rfl, fun b => ?_, rfl, Iff.rfl⟩, rfl, fun _ => rfl, rfl, fun _ => rfl⟩
  show (s.bays.map BayCtl.millisecond)[b.val].core = s.bays[b].core
  rw [Vector.getElem_map]; rfl

theorem Reader.tick_idle (now : Nat) (r : Reader) : (r.tick now).state = .idle ↔ r.state = .idle := by
  unfold Reader.tick; split <;> simp_all

theorem quiet_microsecond (s : State) : Quiet s (microsecond s) := by
  have run : Quiet s (((s.modTimer fun t => { t with timeUs := s.timer.timeUs + 1 }).modConverter
      (Converter.run s.outside Config.ticksPerMicrosecond)).modReader (Reader.tick (s.timer.timeUs + 1))) :=
    ((quiet_modTimer _ s).trans (quiet_modConverter _ _)).trans
      (quiet_modReader (Reader.tick_queue _ _) (Reader.tick_idle _ _))
  simp only [microsecond]; split
  · exact run.trans (quiet_millisecond _)
  · exact run

/-- R141: storing a capacity. -/
theorem quiet_setFeederUnits (c : Nat) (s : State) : Quiet s (setFeederUnits c s) :=
  (quiet_modFeeder (f := Feeder.setUnits c) rfl).trans (quiet_forBays quiet_heatingToWaiting _ _)

/-- R151: lowering the settle counts. -/
theorem quiet_setSettle (v : Nat) (s : State) : Quiet s (setSettle v s) := by
  refine ⟨⟨fun _ => rfl, fun _ => rfl, rfl, Iff.rfl⟩, rfl, fun b => ?_, rfl, fun _ => rfl⟩
  show (s.doors.map fun d : DoorWatch => { d with settle := min d.settle v })[b.val].doorLong = s.doors[b].doorLong
  rw [Vector.getElem_map]; rfl

/-- R173: SET changes no record's key, no bay, no condition. -/
theorem quiet_storeSetting {x : Setting} {v : Nat} {s t : State} (h : storeSetting x v s = some t) : Quiet s t := by
  cases x <;> simp only [storeSetting, Option.some.injEq, Option.map_eq_some_iff, reduceCtorEq] at h
  case settleRounds => subst h; exact quiet_setSettle _ s
  case feederUnits => subst h; exact quiet_setFeederUnits _ s
  case sagLevel => subst h; exact quiet_modFeeder rfl
  case restoreRounds => subst h; exact quiet_modFeeder rfl
  case guard => obtain ⟨g, -, rfl⟩ := h; exact .of_eq rfl rfl rfl rfl rfl rfl fun _ => rfl
  all_goals subst h; exact .of_eq rfl rfl rfl rfl rfl rfl fun _ => rfl

/-! ## The reader's events short of a delivery are quiet -/

theorem quiet_bringHeadLine (high : Bool) (s : State) : Quiet s (bringHeadLine high s) := by
  unfold bringHeadLine; split
  · exact .refl s
  · exact quiet_setTagLine _ high s

theorem quiet_wakeEnd (s : State) : Quiet s (wakeEnd s) :=
  quiet_modReader (Reader.wakeEnd_queue _ _) (by unfold Reader.wakeEnd; split <;> simp_all)

theorem quiet_presenceSeen (s : State) : Quiet s (presenceSeen s) := by
  unfold presenceSeen; split
  · exact (quiet_bringHeadLine false s).trans
      (quiet_modReader (Reader.presenceSeen_queue _ _) (by unfold Reader.presenceSeen; split <;> simp_all))
  · exact .refl s

theorem Reader.storeBit_idle (high : Bool) (r : Reader) : (r.storeBit high).state = .idle ↔ r.state = .idle := by
  unfold Reader.storeBit; split
  · split <;> simp_all
  all_goals rfl

theorem quiet_bitSlotSample (high : Bool) (s : State) : Quiet s (bitSlotSample high s) := by
  unfold bitSlotSample; split
  · refine (quiet_bringHeadLine high s).trans (quiet_modReader ?_ ?_)
    · simp [Reader.sampleBit]
    · rw [Reader.sampleBit, Reader.tick_idle, Reader.storeBit_idle, Reader.bringTo_state]
  · exact .refl s

theorem quiet_spacingEnd (s : State) : Quiet s (spacingEnd s) :=
  quiet_modReader (Reader.spacingEnd_queue _ _)
    (by unfold Reader.spacingEnd Reader.beginAttempt; split <;> simp_all)

/-- R63: from an attempt to its spacing. -/
theorem quiet_enterSpacing {n start : Nat} {s : State} (h : s.reader.state ≠ .idle) :
    Quiet s (s.modReader (Reader.enterSpacing n start)) :=
  quiet_modReader rfl (by simp [Reader.enterSpacing, h])

theorem quiet_bringTo (now at' : Nat) (s : State) : Quiet s (s.modReader (Reader.bringTo now at')) :=
  quiet_modReader rfl Iff.rfl

end Sys2Proof.Machine

namespace Sys2Proof.Machine

/-! # What every step keeps

A property that quiet work keeps, and that the few operations keep which are not quiet, is kept by every step. The
operations that are not quiet are the fields of `KeptByWork`; the proof that nothing else happens is done here once. -/

/-- Work that keeps a property. -/
def Keeps (P : State → Prop) (work : State → State) : Prop := ∀ s, P s → P (work s)

/-- R6, R12, R16: a record that can be parked: one of the table that is not PARKED, or a new one for a FREE slot. -/
def Parkable (s : State) (i : SlotIx) (r : Record) : Prop :=
  r.place.bay? = none ∧
    (s.table[i] = some r ∨ (s.table[i] = none ∧ r.number ≠ 0 ∧ s.slotOf r.number = none))

/-- The outcomes of a match keep a property: parking a record at the bay, and holding it. -/
structure Settles (P : State → Prop) (b : Bay) (s : State) : Prop where
  park : ∀ i r, Parkable s i r → P (park i r b s)
  hold : ∀ h : Held, h.tag ≠ some 0 → P (hold b h s)

/-- A property that quiet work keeps, and each operation that is not quiet, where the part does it. -/
structure KeptByWork (P : State → Prop) : Prop where
  quiet : ∀ s t, Quiet s t → P s → P t
  reset : ∀ cause s, P (beginReset cause s)
  book : ∀ (s : State) (i : SlotIx) (n : TrailerNo) (x : Settings), P s → n ≠ 0 → s.slotOf n = none → s.table[i] = none →
    P (s.putSlot i (some (Record.create n .booked x)))
  retire : ∀ (s : State) (i : SlotIx) (r : Record), P s → s.table[i] = some r → r.place.bay? = none → P (s.putSlot i none)
  heldTag : ∀ (s : State) (b : Bay) (h : Held), P s → s.bays[b].state = .held h → h.tag ≠ some 0
  held : ∀ (s : State) (b : Bay) (h : Held), P s → s.bays[b].state = .held h → Settles P b s
  head : ∀ (s : State) (b : Bay) (rest : List Bay) (now : Nat), P s → s.reader.queue = b :: rest →
    Settles P b (s.modReader (Reader.deliver now))
  enable : ∀ b, Keeps P (enable b)
  disable : ∀ b, Keeps P (disable b)
  clearFault : ∀ (s : State) (b : Bay), P s → s.bays[b].state = .fault → P (clearFault b s)
  connect : ∀ b, Keeps P (connect b)
  disconnect : ∀ b, Keeps P (disconnect b)
  trip : ∀ (s : State) (b : Bay), P s → s.bays[b].state = .serving → P (trip b s)
  deliverReading : ∀ ch x, Keeps P (deliverReading ch x)
  endFuelJudgements : ∀ b, Keeps P (endFuelJudgements b)
  endFuelDrop : ∀ b, Keeps P fun s =>
    (ceaseIf s.conditions[b].fuelDrop .fuelDrop b s).modCond b fun c => { c with fuelDrop := false }
  judgeDoorLong : ∀ (s : State) (b : Bay), P s → s.bays[b].connected = true → P (judgeDoorLong b s)
  endDoorLong : ∀ b, Keeps P (endDoorLong b)
  checkPoint : Keeps P checkPoint

/-- Work at bay after bay. -/
theorem Keeps.forBays {P : State → Prop} {work : Bay → State → State} (h : ∀ b, Keeps P (work b)) (bays : List Bay) :
    Keeps P (forBays work bays) := by
  induction bays with
  | nil => exact fun _ hs => hs
  | cons b rest ih => exact fun s hs => ih (work b s) (h b s hs)

/-! ## The index finds what the table holds (R1) -/

/-- R1: the record that the index reaches has the number. -/
theorem slotOf_some {s : State} {n : TrailerNo} {i : SlotIx} (h : s.slotOf n = some i) :
    ∃ r, s.table[i] = some r ∧ r.number = n := by
  have hi := List.find?_some h
  simpa only [beq_iff_eq, Option.map_eq_some_iff] using hi

/-- R1: a number is not found exactly when no record has it. -/
theorem slotOf_eq_none {s : State} {n : TrailerNo} :
    s.slotOf n = none ↔ ∀ i : SlotIx, ∀ r, s.table[i] = some r → r.number ≠ n := by
  simp only [State.slotOf, List.find?_eq_none, beq_iff_eq, Option.map_eq_some_iff, not_exists, not_and]
  exact ⟨fun h i => h i (List.mem_finRange i), fun h i _ => h i⟩

/-- R1: a FREE slot holds no record. -/
theorem freeSlot_some {s : State} {i : SlotIx} (h : s.freeSlot = some i) : s.table[i] = none :=
  Option.isNone_iff_eq_none.1 (List.find?_some (p := fun i : SlotIx => s.table[i].isNone) h)

/-- R1: no slot is FREE exactly when each holds a record. -/
theorem freeSlot_eq_none {s : State} : s.freeSlot = none ↔ ∀ i : SlotIx, s.table[i] ≠ none := by
  simp only [State.freeSlot, List.find?_eq_none, Option.isNone_iff_eq_none]
  exact ⟨fun h i => h i (List.mem_finRange i), fun h i _ => h i⟩

/-- R24: the record of a number stands in the slot the index reaches. -/
theorem named_eq_some {s : State} {n : TrailerNo} {i : SlotIx} {r : Record} :
    s.named n = some (i, r) ↔ s.slotOf n = some i ∧ s.table[i] = some r := by
  simp only [State.named, Option.bind_eq_some_iff, Option.map_eq_some_iff, Prod.mk.injEq]
  constructor
  · rintro ⟨j, hj, q, hq, rfl, rfl⟩; exact ⟨hj, hq⟩
  · rintro ⟨hi, hr⟩; exact ⟨i, hi, r, hr, rfl, rfl⟩

/-- R24: a number names no record exactly when the index does not reach one. -/
theorem named_eq_none {s : State} {n : TrailerNo} : s.named n = none ↔ s.slotOf n = none := by
  constructor
  · intro h
    cases hi : s.slotOf n with
    | none => rfl
    | some i =>
      obtain ⟨r, hr, -⟩ := slotOf_some hi
      rw [named_eq_some.2 ⟨hi, hr⟩] at h; cases h
  · intro h; rw [State.named, h, Option.bind_none]

/-- The record of a number that is not PARKED can be parked. -/
theorem parkable_named {s : State} {n : TrailerNo} {i : SlotIx} {r : Record} (h : s.named n = some (i, r))
    (hp : r.place.bay? = none) : Parkable s i r := ⟨hp, .inl (named_eq_some.1 h).2⟩

/-- A new record can be parked in a FREE slot. -/
theorem parkable_create {s : State} {n : TrailerNo} {i : SlotIx} (hn : n ≠ 0) (hs : s.slotOf n = none)
    (hi : s.freeSlot = some i) : Parkable s i (Record.create n .unbooked .default) :=
  ⟨rfl, .inr ⟨freeSlot_some hi, hn, hs⟩⟩

/-- R12: what is left of a match where its outcomes keep a property. -/
theorem Settles.matchNumber {P : State → Prop} {b : Bay} {s : State} (h : Settles P b s) {n : TrailerNo} (hn : n ≠ 0) :
    P (matchNumber b n s) := by
  have tag : some n ≠ some 0 := fun e => hn (Option.some.inj e)
  unfold Machine.matchNumber
  cases hi : s.slotOf n with
  | some i =>
    obtain ⟨r, hr, -⟩ := slotOf_some hi
    simp only [hr]
    cases hp : r.place with
    | parked c since => exact h.hold _ tag
    | booked => exact h.park i r ⟨by rw [hp]; rfl, .inl hr⟩
    | departed c since left => exact h.park i r ⟨by rw [hp]; rfl, .inl hr⟩
  | none =>
    simp only
    cases hf : s.freeSlot with
    | some i => exact h.park i _ (parkable_create hn hi hf)
    | none => exact h.hold _ tag

/-- R18: AMEND keeps a record's number and place. -/
theorem Record.amend_key (x : Settings) (r : Record) : (r.amend x).key = r.key := by
  unfold Record.amend Record.key
  simp only
  split <;> split <;> split <;> rfl

/-- R62: a frame judged good names a trailer. -/
theorem judge_ne_zero (bytes : List Byte) : Reader.judge bytes ≠ some 0 := by
  unfold Reader.judge; split
  · split
    · split
      · simp
      next hn => simpa using hn
    · simp
  · simp

/-- A command on a named record. -/
theorem onNamed_keeps {P : State → Prop} {n : TrailerNo} {work : SlotIx → Record → State × Answer} {s : State} (hs : P s)
    (hw : ∀ i r, s.slotOf n = some i → s.table[i] = some r → P (work i r).1) : P (onNamed n work s).1 := by
  unfold onNamed; split
  · exact hs
  · split
    · exact hs
    · next e => exact hw _ _ (named_eq_some.1 e).1 (named_eq_some.1 e).2

/-- A command on a bay. -/
theorem onBay_keeps {P : State → Prop} {c : Byte} {work : Bay → State × Answer} {s : State} (hs : P s) (hw : ∀ b, P (work b).1) :
    P (onBay c work s).1 := by
  unfold onBay; split
  · exact hw _
  · exact hs

/-- The gate of a reset in progress. -/
theorem Keeps.whenRunning {P : State → Prop} {work : State → State} (hw : Keeps P work) {s t : State} (hs : P s)
    (ht : whenRunning s work = .next t) : P t := by
  cases hr : s.resetting with
  | none => rw [whenRunning_of_none hr] at ht; cases ht; exact hw s hs
  | some cause => rw [whenRunning_of_some hr] at ht; cases ht; exact hs

namespace KeptByWork

variable {P : State → Prop} (h : KeptByWork P)
include h

/-- Quiet work, as an operation. -/
theorem of_quiet {work : State → State} (hw : ∀ s, Quiet s (work s)) : Keeps P work := fun s => h.quiet _ _ (hw s)

/-! ## Requests -/

theorem bookRequest (n : TrailerNo) (a : SettingsArg) {s : State} (hs : P s) : P (Machine.book n a s).1 := by
  unfold Machine.book
  split
  · exact hs
  next bad =>
    split
    · exact hs
    next fresh =>
      split
      · exact hs
      next i hi =>
        have hn : s.slotOf n = none := named_eq_none.1 (by simpa using fresh)
        exact h.book s i n _ hs (fun e => bad (.inl e)) hn (freeSlot_some hi)

theorem amendRequest (n : TrailerNo) (a : SettingsArg) {s : State} (hs : P s) : P (amend n a s).1 := by
  unfold Machine.amend; split
  · exact hs
  · refine onNamed_keeps hs fun i r _ hr => ?_
    have stored : P (s.putSlot i (some (r.amend (applySettings a r.settings)))) :=
      h.quiet _ _ (quiet_putSlot hr (Record.amend_key _ r)) hs
    simp only
    split
    · split
      · exact stored
      · exact h.endFuelJudgements _ _ stored
    · exact stored

theorem retireRequest (n : TrailerNo) {s : State} (hs : P s) : P (Machine.retire n s).1 := by
  refine onNamed_keeps hs fun i r _ hr => ?_
  cases hp : r.place with
  | parked c since => exact hs
  | booked => exact h.retire s i r hs hr (by rw [hp]; rfl)
  | departed c since left => exact h.retire s i r hs hr (by rw [hp]; rfl)

theorem assignRequest (c : Byte) (n : TrailerNo) {s : State} (hs : P s) : P (assign c n s).1 := by
  refine onBay_keeps hs fun b => ?_
  split
  · exact hs
  next hn =>
    unfold assignAt; split
    next ha =>
      obtain ⟨x, hx⟩ : ∃ x, s.bays[b].state = .held x := by
        cases hb : s.bays[b].state <;> simp_all [BayState.assignable]
      have settles := h.held s b x hs hx
      split
      next i r hi =>
        split
        · exact hs
        next free => exact settles.park i r (parkable_named hi (by simpa using free))
      next unknown =>
        split
        next i hi => exact settles.park i _ (parkable_create hn (named_eq_none.1 unknown) hi)
        · exact hs
    · exact hs

theorem rebaseRequest (n : TrailerNo) {s : State} (hs : P s) : P (rebase n s).1 := by
  refine onNamed_keeps hs fun i r _ hr => ?_
  split
  next f v _ _ =>
    have based : P (s.putSlot i (some { r with fuel := { r.fuel with baseline := some f } })) :=
      h.quiet _ _ (quiet_putSlot hr rfl) hs
    simp only
    split
    next b _ => exact h.endFuelDrop b _ based
    · exact based
  · exact hs

theorem defrostStopRequest (n : TrailerNo) {s : State} (hs : P s) : P (defrostStop n s).1 := by
  refine onNamed_keeps hs fun i r _ hr => ?_
  split
  · exact hs
  · exact h.quiet _ _ (quiet_putSlot hr rfl) hs
  · split
    next b _ => exact h.quiet _ _ (quiet_endHeating b r s) hs
    · exact hs
  · exact hs

theorem defrostNowRequest (n : TrailerNo) {s : State} (hs : P s) : P (defrostNow n s).1 := by
  refine onNamed_keeps hs fun i r _ hr => ?_
  split
  · split
    · exact h.quiet _ _ (quiet_putSlot hr rfl) hs
    · exact h.quiet _ _ (quiet_putSlot hr rfl) hs
    all_goals exact hs
  · exact hs

theorem clearFaultRequest (c : Byte) {s : State} (hs : P s) : P (commandClearFault c s).1 := by
  refine onBay_keeps hs fun b => ?_
  split
  next hf =>
    split
    · exact h.clearFault s b hs hf
    · exact hs
  · exact hs

theorem spotRequest (c k : Byte) {s : State} (hs : P s) : P (spot c k s).1 := by
  refine onBay_keeps hs fun b => ?_
  split
  · exact hs
  · simp only
    split
    · exact hs
    · split
      · exact hs
      · split
        · exact h.quiet _ _ (quiet_modConverter _ s) hs
        · exact hs

/-- R89: a record keeps its key when a curve it is bound to changes. -/
theorem storeCurve (c : Fin 8) (v : Option Curve) : Keeps P (storeCurve c v) := by
  intro s hs
  refine Keeps.forBays h.endFuelJudgements _ _ (h.quiet s _ ⟨⟨fun i => ?_, fun _ => rfl, rfl, Iff.rfl⟩, rfl, fun _ => rfl, rfl, fun _ => rfl⟩ hs)
  show ((s.table.map (Option.map (Record.curveChanged c)))[i.val]).map Record.key = _
  rw [Vector.getElem_map, Option.map_map]
  congr 1
  funext r
  simp only [Function.comp, Record.curveChanged]
  split <;> split <;> rfl

theorem curveWriteRequest (c k n : Byte) (pts : List (Word × Half)) {s : State} (hs : P s) :
    P (curveWrite c k n pts s).1 := by
  unfold Machine.curveWrite; split
  · exact hs
  · split
    · simp only
      split
      · exact h.storeCurve _ _ s hs
      · exact hs
    · exact hs

theorem curveClearRequest (c : Byte) {s : State} (hs : P s) : P (curveClear c s).1 := by
  unfold Machine.curveClear; split
  · exact hs
  · split
    · exact hs
    · exact h.storeCurve _ _ s hs

theorem setRequest (c : Byte) (v : Word) {s : State} (hs : P s) : P (set c v s).1 := by
  unfold Machine.set; split
  · unfold setNamed; split
    next e => exact h.quiet _ _ (quiet_storeSetting e) hs
    · exact hs
  · exact hs

theorem routeSetRequest (k m c : Byte) {s : State} (hs : P s) : P (routeSet k m c s).1 := by
  unfold Machine.routeSet; split
  · exact h.quiet _ _ (quiet_modNotices fun l => Notices.flag_setRoute _ _ _ _ _ l) hs
  · exact hs

theorem takeNoticeRequest {s : State} (hs : P s) : P (take s).1 :=
  h.quiet s _ (quiet_modNotices (f := fun n => (n.take s.timer.number).1) fun l => Notices.flag_take _ _ l) hs

theorem ackRequest (k p : Byte) {s : State} (hs : P s) : P (ack k p s).1 := by
  unfold Machine.ack; split
  · exact hs
  next key _ => exact h.quiet s _ (quiet_modNotices (f := fun n => (n.ack key).1) fun l => Notices.flag_ack _ _ l) hs

/-- R172: a request is carried out by its own rule. -/
theorem runRequest (r : Request) {s : State} (hs : P s) : P (runRequest r s).1 := by
  cases r with
  | book n a => exact h.bookRequest n a hs
  | amend n a => exact h.amendRequest n a hs
  | retire n => exact h.retireRequest n hs
  | lookup sel op =>
    simp only [Machine.runRequest, lookup]
    split
    · exact onNamed_keeps hs fun _ _ _ _ => hs
    all_goals exact hs
  | list st => simp only [Machine.runRequest, list]; split <;> exact hs
  | assign b n => exact h.assignRequest b n hs
  | rebase n => exact h.rebaseRequest n hs
  | defrostNow n => exact h.defrostNowRequest n hs
  | defrostStop n => exact h.defrostStopRequest n hs
  | bayStatus b => exact onBay_keeps hs fun _ => hs
  | bayEnable b => exact onBay_keeps hs fun b => h.enable b s hs
  | bayDisable b => exact onBay_keeps hs fun b => h.disable b s hs
  | clearFault b => exact h.clearFaultRequest b hs
  | spot b k => exact h.spotRequest b k hs
  | curveWrite c k n pts => exact h.curveWriteRequest c k n pts hs
  | curveRead c => simp only [Machine.runRequest, curveRead]; split <;> exact hs
  | curveClear c => exact h.curveClearRequest c hs
  | set x v => exact h.setRequest x v hs
  | get x => simp only [Machine.runRequest, get]; split <;> exact hs
  | routeSet k m c => exact h.routeSetRequest k m c hs
  | routeRead k => simp only [Machine.runRequest, routeRead]; split <;> exact hs
  | take => exact h.takeNoticeRequest hs
  | ack k p => exact h.ackRequest k p hs
  | reset => exact hs

/-! ## The host link -/

theorem modLink (f : Link → Link) : Keeps P (State.modLink f) := h.of_quiet (quiet_modLink f)

theorem takeRequest (r : Request) : Keeps P (takeRequest r) := fun _ hs => h.modLink _ _ (h.runRequest r hs)

theorem takePayload (payload : List Byte) : Keeps P (takePayload payload) := by
  intro s hs
  unfold Machine.takePayload; split
  · exact h.takeRequest _ s hs
  all_goals exact h.modLink _ s hs

theorem meetFrame {taken : State → State} (ht : Keeps P taken) (payload : List Byte) : Keeps P (meetFrame payload taken) := by
  intro s hs
  unfold Machine.meetFrame; split
  · exact ht s hs
  · split
    · exact h.modLink _ s hs
    · exact hs

theorem hostRequest (r : Request) : Keeps P (hostRequest r) := h.meetFrame (h.takeRequest r) _

theorem completeFrame (payload : List Byte) (check : Half) : Keeps P (completeFrame payload check) := by
  intro s hs
  unfold Machine.completeFrame; split
  · exact h.meetFrame (h.takePayload payload) payload s hs
  · exact hs

theorem receiveByte (v : Byte) : Keeps P (receiveByte v) := by
  intro s hs
  unfold Machine.receiveByte; split
  · split
    · exact h.modLink _ s hs
    · exact hs
  · split <;> exact h.modLink _ s hs
  · unfold bodyByte; split
    · exact h.modLink _ s hs
    · exact h.completeFrame _ _ _ (h.modLink _ s hs)

theorem frameArrives (payload : List Byte) (check : Half) : Keeps P (frameArrives payload check) := by
  intro s hs
  unfold Machine.frameArrives; split
  · exact h.completeFrame _ _ _ (h.modLink _ s hs)
  · exact h.modLink _ s hs

theorem answerSent : Keeps P answerSent := by
  intro s hs
  unfold Machine.answerSent; split
  · exact hs
  · split
    · exact h.reset _ s
    · split
      · exact h.modLink _ s hs
      · exact h.takePayload _ _ (h.modLink _ s hs)

theorem commandReset : Keeps P commandReset := by
  intro s hs
  unfold Machine.commandReset; split
  · exact hs
  · split
    · exact h.reset _ s
    · exact hs

/-! ## The round -/

theorem retry (b : Bay) : Keeps P (retry b) := by
  intro s hs
  unfold Machine.retry; split
  next n hb =>
    have hn : n ≠ 0 := fun e => h.heldTag s b _ hs hb (by rw [e]; rfl)
    exact (h.held s b _ hs hb).matchNumber hn
  all_goals exact hs

theorem doorRound (b : Bay) : Keeps P (doorRound b) := by
  intro s hs
  unfold Machine.doorRound; split
  next hc =>
    have counted := quiet_doorCounts b s
    exact h.judgeDoorLong _ b (h.quiet _ _ counted hs) ((counted.connected b).trans hc)
  · exact hs

theorem bayRound (b : Bay) : Keeps P (bayRound b) := fun s hs =>
  h.doorRound b _ (h.retry b _ (h.quiet _ _ ((quiet_channelRound b s).trans (quiet_defrostRound b _)) hs))

theorem roundStart (order : List Bay) : Keeps P (roundStart order) := fun s hs =>
  Keeps.forBays h.bayRound _ _ (h.quiet _ _ (quiet_openRound s) hs)

theorem pointWork (p : Point) : Keeps P (pointWork p) := by
  cases p with
  | check => exact h.checkPoint
  | grant => exact h.of_quiet fun s => quiet_grantWalk _ s
  | sweep => exact h.of_quiet fun s => quiet_modConverter _ s

theorem modTimer (f : Timer → Timer) : Keeps P (State.modTimer f) := h.of_quiet (quiet_modTimer f)

theorem takePoint (p : Point) : Keeps P (takePoint p) := fun s hs => h.pointWork p _ (h.modTimer _ s hs)

theorem passPoint (limit : Nat) : Keeps P (passPoint limit) := by
  intro s hs
  unfold Machine.passPoint; split
  · exact h.takePoint _ s hs
  · exact hs

theorem passPoints (limit : Nat) : Keeps P (passPoints limit) := fun s hs =>
  h.passPoint limit _ (h.passPoint limit _ (h.passPoint limit s hs))

theorem pointRow (p : Point) : Keeps P (pointRow p) := by
  intro s hs
  unfold Machine.pointRow; split
  · exact h.takePoint p _ (h.passPoints _ s hs)
  · split
    · exact h.pointWork p _ (h.modTimer _ _ (h.passPoints _ s hs))
    · exact hs
  · exact hs

theorem roundStartRow (order : List Bay) : Keeps P (roundStartRow order) := fun s hs =>
  h.roundStart order _ (h.passPoints _ s hs)

theorem channelCountdownExpiry (b : Bay) (k : ChannelKind) : Keeps P (channelCountdownExpiry b k) := by
  intro s hs
  unfold Machine.channelCountdownExpiry; split
  · exact h.quiet _ _ (quiet_modConverter _ s) hs
  · exact hs

/-! ## Resets -/

theorem pinReset : Keeps P pinReset := by
  intro s hs
  unfold Machine.pinReset; split
  · exact hs
  all_goals exact h.reset _ s

theorem resetEnd : Keeps P resetEnd := by
  intro s hs
  unfold Machine.resetEnd; split
  · exact h.roundStart [] _ (h.quiet s _ (.of_eq rfl rfl rfl rfl rfl rfl fun _ => rfl) hs)
  · exact hs

/-! ## Conversions -/

theorem modConverter (f : Converter → Converter) : Keeps P (State.modConverter f) := h.of_quiet (quiet_modConverter f)

theorem modOutside (f : Outside → Outside) : Keeps P (State.modOutside f) := h.of_quiet (quiet_modOutside f)

theorem conversionDone (ch : Channel) (x : Reading) : Keeps P (conversionDone ch x) := fun s hs =>
  h.modConverter _ _ (h.deliverReading ch x s hs)

theorem referenceEnd (rate : Nat) : Keeps P (referenceEnd rate) := by
  intro s hs
  unfold Machine.referenceEnd; split
  next ch _ _ _ =>
    have brought := h.modOutside (Outside.putReference ch rate) s hs
    simp only
    split
    · split
      · exact h.conversionDone _ _ _ brought
      · exact h.modConverter _ _ brought
    all_goals exact brought
  all_goals exact hs

theorem sensorEnd (x : ChannelInput) : Keeps P (sensorEnd x) := by
  intro s hs
  unfold Machine.sensorEnd; split
  next ch _ _ _ _ =>
    have brought := h.modOutside (Outside.putInput ch x) s hs
    simp only
    split
    · exact h.conversionDone _ _ _ brought
    all_goals exact brought
  all_goals exact hs

/-! ## The tag reader -/

theorem deliverOutcome {o : Option TrailerNo} (ho : o ≠ some 0) : Keeps P (deliverOutcome o) := by
  intro s hs
  unfold Machine.deliverOutcome
  cases hq : s.reader.queue with
  | nil => exact hs
  | cons b rest =>
    have settles := h.head s b rest s.timer.timeUs hs hq
    cases o with
    | none => exact settles.hold .tagFail (by simp [Held.tag])
    | some n => exact settles.matchNumber fun e => ho (by rw [e])

theorem attemptFails (n start : Nat) {s : State} (hi : s.reader.state ≠ .idle) (hs : P s) : P (attemptFails n start s) := by
  unfold Machine.attemptFails; split
  · exact h.deliverOutcome (by simp) s hs
  · exact h.quiet _ _ (quiet_enterSpacing hi) hs

theorem presenceWindowClose : Keeps P presenceWindowClose := by
  intro s hs
  unfold Machine.presenceWindowClose; split
  next e =>
    have line := quiet_bringHeadLine true s
    refine h.attemptFails _ _ ?_ (h.quiet _ _ (line.trans (quiet_bringTo _ _ _)) hs)
    exact fun i => by rw [line.idle.1 i] at e; cases e
  all_goals exact hs

theorem attemptJudged : Keeps P attemptJudged := by
  intro s hs
  unfold Machine.attemptJudged; split
  next bytes e =>
    split
    · exact hs
    · split
      next number hj => exact h.deliverOutcome (hj ▸ judge_ne_zero bytes) s hs
      · exact h.attemptFails _ _ (by rw [State.modReader_reader, Reader.bringTo_state, e]; simp)
          (h.quiet _ _ (quiet_bringTo _ _ s) hs)
  all_goals exact hs

/-! ## Bays and doors -/

theorem senseAcceptance (b : Bay) (level : Bool) : Keeps P (senseAcceptance b level) := by
  intro s hs
  have stands := h.quiet _ _ (quiet_modLines b (fun x => { x with sense := level }) s) hs
  unfold Machine.senseAcceptance; split
  · exact hs
  · simp only
    split
    · exact h.connect b _ stands
    · exact h.disconnect b _ stands

theorem acceptShut (b : Bay) : Keeps P (acceptShut b) := by
  intro s hs
  have shut : P (modFigures b (fun f => { f with state := .shut, lastChange := some s.timer.number })
      (s.modDoor b fun d => { d with settle := s.settleRounds })) :=
    h.quiet _ _ ((quiet_modDoor (f := fun d => { d with settle := s.settleRounds }) rfl).trans (quiet_modFigures b _ _)) hs
  unfold Machine.acceptShut
  simp only
  split
  · exact h.quiet _ _ (quiet_guardEvent _ b _) (h.endDoorLong b _ shut)
  · exact shut
  · exact hs

theorem acceptDoor (b : Bay) (closed : Bool) : Keeps P (acceptDoor b closed) := by
  intro s hs
  have fresh : P (s.modDoor b fun d => { d with doorLine := .none }) := h.quiet _ _ (quiet_modDoor rfl) hs
  unfold Machine.acceptDoor
  simp only
  split
  · exact h.acceptShut b _ fresh
  · exact h.quiet _ _ (quiet_acceptOpen b _) fresh

theorem acceptOvc (b : Bay) (closed : Bool) : Keeps P (acceptOvc b closed) := by
  intro s hs
  have accepted : P (s.modDoor b fun d => { d with ovc := .ofLevel closed, ovcLine := .none }) :=
    h.quiet _ _ (quiet_modDoor rfl) hs
  unfold Machine.acceptOvc
  simp only
  split
  next hv => exact h.trip _ b accepted hv.2
  · exact accepted

theorem doorAcceptance (b : Bay) (closed : Bool) : Keeps P (doorAcceptance b closed) := by
  intro s hs
  unfold Machine.doorAcceptance; split
  · exact h.acceptDoor b closed _ (h.quiet _ _ (quiet_modLines b _ s) hs)
  · exact hs

theorem runAcceptance (b : Bay) (active : Bool) : Keeps P (runAcceptance b active) := by
  intro s hs
  unfold Machine.runAcceptance; split
  · exact h.quiet _ _ ((quiet_modLines b _ s).trans (quiet_acceptRun b active _)) hs
  · exact hs

theorem overcurrentAcceptance (b : Bay) (closed : Bool) : Keeps P (overcurrentAcceptance b closed) := by
  intro s hs
  unfold Machine.overcurrentAcceptance; split
  · exact h.acceptOvc b closed _ (h.quiet _ _ (quiet_modLines b _ s) hs)
  · exact hs

theorem senseSample (b : Bay) (level : Bool) : Keeps P (senseSample b level) := by
  intro s hs
  unfold Machine.senseSample; split
  · exact h.quiet _ _ (quiet_modBay s fun _ => rfl) hs
  · split
    · split
      · exact h.connect b s hs
      · exact h.disconnect b s hs
    · exact h.quiet _ _ (quiet_modBay s fun _ => rfl) hs

theorem watchedSamples (b : Bay) (x : LineSample) : Keeps P (watchedSamples b x) := by
  have door : Keeps P (doorSample b x.door) := by
    intro s hs
    simp only [doorSample]; split
    · exact h.acceptDoor b _ s hs
    · exact h.quiet _ _ (quiet_modDoor rfl) hs
  have run : Keeps P (runSample b x.run) := by
    intro s hs
    simp only [runSample]; split
    · exact h.quiet _ _ (quiet_acceptRun b _ s) hs
    · exact h.quiet _ _ (quiet_modDoor rfl) hs
  have ovc : Keeps P (ovcSample b x.ovc) := by
    intro s hs
    simp only [ovcSample]; split
    · exact h.acceptOvc b _ s hs
    · exact h.quiet _ _ (quiet_modDoor rfl) hs
  intro s hs
  unfold Machine.watchedSamples; split
  · exact ovc _ (run _ (door s hs))
  · exact hs

theorem bayTick (samples : Vector LineSample 16) (b : Bay) : Keeps P (bayTick samples b) := by
  intro s hs
  simp only [Machine.bayTick]; split
  · split
    · exact h.watchedSamples b _ _ (h.senseSample b _ s hs)
    · exact h.senseSample b _ s hs
  · exact h.senseSample b _ _ (h.watchedSamples b _ s hs)

theorem lineSampleTick (samples : Vector LineSample 16) (order : List Bay) : Keeps P (lineSampleTick samples order) :=
  fun s hs => Keeps.forBays (h.bayTick samples) _ _
    (h.quiet _ _ ((quiet_modTimer _ s).trans (quiet_modOutside _ _)) hs)

/-! ## Every command, every step -/

theorem exec (c : Instr) {s t : State} (hs : P s) (ht : exec c s = .next t) : P t := by
  cases hr : requestOf c with
  | some r => rw [exec_of_requestOf hr] at ht; exact Keeps.whenRunning (h.hostRequest r) hs ht
  | none =>
    cases c with
    | curveWrite c k n pts =>
      refine Keeps.whenRunning (work := fun t => if pts.length ≤ Config.maxFramePoints then
        Machine.hostRequest (.curveWrite c k n pts) t else t) (fun t ht => ?_) hs ht
      split
      · exact h.hostRequest _ t ht
      · exact ht
    | frameAccepted p c => exact Keeps.whenRunning (h.frameArrives p c) hs ht
    | frameAbandoned => exact Keeps.whenRunning (h.modLink Link.hunt) hs ht
    | frameGapTimeout => exact Keeps.whenRunning (h.modLink Link.hunt) hs ht
    | answerSent => exact Keeps.whenRunning h.answerSent hs ht
    | powerOnReset => cases ht; exact h.reset _ s
    | pinReset => cases ht; exact h.pinReset s hs
    | commandReset => exact Keeps.whenRunning h.commandReset hs ht
    | resetEnd => cases ht; exact h.resetEnd s hs
    | roundStart order => exact Keeps.whenRunning (h.roundStartRow order) hs ht
    | channelCountdownExpiry b k => exact Keeps.whenRunning (h.channelCountdownExpiry b k) hs ht
    | intervalExpiry b => exact Keeps.whenRunning (h.of_quiet (quiet_intervalExpiryAt b)) hs ht
    | expiryInWaiting b => exact Keeps.whenRunning (h.of_quiet (quiet_expiryInWaitingAt b)) hs ht
    | endByMaximum b => exact Keeps.whenRunning (h.of_quiet (quiet_endByMaximumAt b)) hs ht
    | dripEnd b => exact Keeps.whenRunning (h.of_quiet (quiet_dripEndAt b)) hs ht
    | checkPoint v => exact Keeps.whenRunning (fun s hs => h.pointRow .check _ (h.modOutside _ s hs)) hs ht
    | grantPoint => exact Keeps.whenRunning (h.pointRow .grant) hs ht
    | sweepStart => exact Keeps.whenRunning (h.pointRow .sweep) hs ht
    | selectEnd => exact Keeps.whenRunning (h.modConverter Converter.selectEnd) hs ht
    | referenceEnd rate => exact Keeps.whenRunning (h.referenceEnd rate) hs ht
    | sensorEnd x => exact Keeps.whenRunning (h.sensorEnd x) hs ht
    | wakeEnd => exact Keeps.whenRunning (h.of_quiet quiet_wakeEnd) hs ht
    | presenceSeen => exact Keeps.whenRunning (h.of_quiet quiet_presenceSeen) hs ht
    | presenceWindowClose => exact Keeps.whenRunning h.presenceWindowClose hs ht
    | attemptJudged => exact Keeps.whenRunning h.attemptJudged hs ht
    | spacingEnd => exact Keeps.whenRunning (h.of_quiet quiet_spacingEnd) hs ht
    | connect b => exact Keeps.whenRunning (h.senseAcceptance b true) hs ht
    | disconnect b => exact Keeps.whenRunning (h.senseAcceptance b false) hs ht
    | doorAcceptance b v => exact Keeps.whenRunning (h.doorAcceptance b v) hs ht
    | runAcceptance b v => exact Keeps.whenRunning (h.runAcceptance b v) hs ht
    | overcurrentAcceptance b v => exact Keeps.whenRunning (h.overcurrentAcceptance b v) hs ht
    | powerGoodWaitEnd b => exact Keeps.whenRunning (h.of_quiet (quiet_powerGoodWaitEnd b)) hs ht
    | lineSampleTick x order => exact Keeps.whenRunning (h.lineSampleTick x order) hs ht
    | bitSlotSample v => exact Keeps.whenRunning (h.of_quiet (quiet_bitSlotSample v)) hs ht
    | byteReceived v => exact Keeps.whenRunning (h.receiveByte v) hs ht
    | _ => simp [requestOf] at hr

/-- A property that all work keeps is kept by every step. -/
theorem step {s t : State} (hs : P s) (ht : step s = .next t) : P t := by
  unfold Machine.step at ht; split at ht
  · split at ht
    · exact h.exec _ hs ht
    · cases ht
      unfold idleTick; split
      · exact h.quiet _ _ (quiet_microsecond s) hs
      · exact hs
  next c rest _ =>
    exact h.exec c (h.quiet s { s with pending := rest } (.of_eq rfl rfl rfl rfl rfl rfl fun _ => rfl) hs) ht

end KeptByWork

end Sys2Proof.Machine

namespace Sys2Proof.Machine

/-! # What the bays' operations leave (R8 to R16, R38 to R52)

The fields an operation leaves alone, from its frame lemma, and what it makes of its own bay. -/

@[simp] theorem ceaseHeld_timer (b : Bay) (s : State) : (ceaseHeld b s).timer = s.timer := by
  rw [ceaseHeld_frame]
@[simp] theorem ceaseHeld_bays (b : Bay) (s : State) : (ceaseHeld b s).bays = s.bays := by
  rw [ceaseHeld_frame]
@[simp] theorem ceaseHeld_doors (b : Bay) (s : State) : (ceaseHeld b s).doors = s.doors := by
  rw [ceaseHeld_frame]
@[simp] theorem ceaseHeld_reader (b : Bay) (s : State) : (ceaseHeld b s).reader = s.reader := by
  rw [ceaseHeld_frame]
@[simp] theorem ceaseHeld_converter (b : Bay) (s : State) : (ceaseHeld b s).converter = s.converter := by
  rw [ceaseHeld_frame]
@[simp] theorem ceaseHeld_table (b : Bay) (s : State) : (ceaseHeld b s).table = s.table := by
  rw [ceaseHeld_frame]
@[simp] theorem ceaseHeld_conditions (b : Bay) (s : State) : (ceaseHeld b s).conditions = s.conditions := by
  rw [ceaseHeld_frame]
@[simp] theorem ceaseHeld_feeder (b : Bay) (s : State) : (ceaseHeld b s).feeder = s.feeder := by
  rw [ceaseHeld_frame]
@[simp] theorem ceaseHeld_powerGoodMs (b : Bay) (s : State) : (ceaseHeld b s).powerGoodMs = s.powerGoodMs := by
  rw [ceaseHeld_frame]

@[simp] theorem enterServing_doors (b : Bay) (s : State) : (enterServing b s).doors = s.doors := by
  rw [enterServing_frame]
@[simp] theorem enterServing_reader (b : Bay) (s : State) : (enterServing b s).reader = s.reader := by
  rw [enterServing_frame]
@[simp] theorem enterServing_table (b : Bay) (s : State) : (enterServing b s).table = s.table := by
  rw [enterServing_frame]
@[simp] theorem enterServing_conditions (b : Bay) (s : State) : (enterServing b s).conditions = s.conditions := by
  rw [enterServing_frame]
@[simp] theorem enterServing_feeder (b : Bay) (s : State) : (enterServing b s).feeder = s.feeder := by
  rw [enterServing_frame]

/-- Every bay but one is known as before, and that one as `x`. -/
def BayBecomes (b : Bay) (x : BayCtl) (s t : State) : Prop :=
  ∀ c : Bay, t.bays[c].core = if c = b then x.core else s.bays[c].core

theorem BayBecomes.at {b : Bay} {x : BayCtl} {s t : State} (h : BayBecomes b x s t) : t.bays[b].core = x.core := by
  rw [h b, if_pos rfl]

theorem BayBecomes.other {b c : Bay} {x : BayCtl} {s t : State} (h : BayBecomes b x s t) (hc : c ≠ b) :
    t.bays[c].core = s.bays[c].core := by
  rw [h c, if_neg hc]

theorem BayBecomes.state {b : Bay} {x : BayCtl} {s t : State} (h : BayBecomes b x s t) : t.bays[b].state = x.state :=
  congrArg (·.1) h.at

theorem BayBecomes.state_other {b c : Bay} {x : BayCtl} {s t : State} (h : BayBecomes b x s t) (hc : c ≠ b) :
    t.bays[c].state = s.bays[c].state := congrArg (·.1) (h.other hc)

theorem BayBecomes.ref_at {b : Bay} {x : BayCtl} {s t : State} (h : BayBecomes b x s t) : t.bays[b].ref = x.ref :=
  congrArg (·.2.2) h.at

theorem BayBecomes.ref_other {b c : Bay} {x : BayCtl} {s t : State} (h : BayBecomes b x s t) (hc : c ≠ b) :
    t.bays[c].ref = s.bays[c].ref := congrArg (·.2.2) (h.other hc)

theorem bayBecomes_set {b : Bay} {x y : BayCtl} {s t : State} (h : t.bays = s.bays.set b.val y) (hy : y.core = x.core) :
    BayBecomes b x s t := by
  intro c; rw [h, vector_set_get]; split
  · exact hy
  · rfl

/-- Only the bay itself depends on what it was before. -/
theorem BayBecomes.after {b : Bay} {x y : BayCtl} {s t u : State} (h : BayBecomes b x s t) (g : BayBecomes b y t u) :
    BayBecomes b y s u := by
  intro c; rw [g c]; split
  · rfl
  · next hc => exact h.other hc

/-- Work behind it that changes nothing of the registry. -/
theorem BayBecomes.of_same {b : Bay} {x : BayCtl} {s t u : State} (h : BayBecomes b x s t) (g : SameRegistry t u) :
    BayBecomes b x s u := fun c => (g.bays c).trans (h c)

/-- R41, R47: the bay state in which an entry to SERVING ends. -/
def OvcState.entry : OvcState → BayState
  | .clear => .serving
  | .tripped => .fault

theorem enterServing_bay (b : Bay) (s : State) :
    BayBecomes b { s.bays[b] with state := s.doors[b].ovc.entry } s (enterServing b s) := by
  unfold enterServing; split
  next e => exact bayBecomes_set (y := BayCtl.serve s.powerGoodMs s.bays[b]) rfl (by rw [e]; rfl)
  next e => exact bayBecomes_set (y := BayCtl.become .fault s.bays[b]) rfl (by rw [e]; rfl)

/-- R13: what becoming HELD makes of the bay; a bay HELD for the same reason is that already. -/
theorem hold_bay (b : Bay) (h : Held) (s : State) : BayBecomes b { s.bays[b] with state := .held h } s (hold b h s) := by
  unfold hold; split
  next e =>
    intro c; split
    · next hc => rw [hc]; simp [BayCtl.core, ← e]
    · rfl
  · exact bayBecomes_set (y := BayCtl.become (.held h) s.bays[b]) (by simp) rfl

theorem SameRegistry.of_eq {s t : State} (ht : t.table = s.table) (hb : t.bays = s.bays) (hr : t.reader = s.reader) :
    SameRegistry s t := ⟨fun i => by rw [ht], fun b => by rw [hb], by rw [hr], by rw [hr]⟩

/-- One bay alone becomes `x`, and the records and the identify queue stay. -/
structure OnlyBay (b : Bay) (x : BayCtl) (s t : State) : Prop where
  records : ∀ i : SlotIx, t.table[i].map Record.key = s.table[i].map Record.key
  bay : BayBecomes b x s t
  queue : t.reader.queue = s.reader.queue
  idle : t.reader.state = .idle ↔ s.reader.state = .idle

theorem OnlyBay.after {b : Bay} {x : BayCtl} {s t u : State} (h : SameRegistry s t) (g : OnlyBay b x t u) :
    OnlyBay b x s u :=
  ⟨fun i => (g.records i).trans (h.records i),
    fun c => by rw [g.bay c, h.bays c], g.queue.trans h.queue, g.idle.trans h.idle⟩

theorem OnlyBay.then {b : Bay} {x : BayCtl} {s t u : State} (h : OnlyBay b x s t) (g : SameRegistry t u) :
    OnlyBay b x s u :=
  ⟨fun i => (g.records i).trans (h.records i), h.bay.of_same g, g.queue.trans h.queue, g.idle.trans h.idle⟩

theorem OnlyBay.of_eq {b : Bay} {x : BayCtl} {s t : State} (ht : t.table = s.table) (hb : BayBecomes b x s t)
    (hr : t.reader = s.reader) : OnlyBay b x s t := ⟨fun i => by rw [ht], hb, by rw [hr], by rw [hr]⟩

theorem onlyBay_modBay {b : Bay} {f : BayCtl → BayCtl} {x : BayCtl} {s : State} (h : (f s.bays[b]).core = x.core) :
    OnlyBay b x s (s.modBay b f) := .of_eq rfl (bayBecomes_set rfl h) rfl

theorem onlyBay_enterServing (b : Bay) (s : State) :
    OnlyBay b { s.bays[b] with state := s.doors[b].ovc.entry } s (enterServing b s) :=
  .of_eq (enterServing_table b s) (enterServing_bay b s) (enterServing_reader b s)

theorem onlyBay_hold (b : Bay) (h : Held) (s : State) : OnlyBay b { s.bays[b] with state := .held h } s (hold b h s) :=
  .of_eq (by rw [hold_frame]) (hold_bay b h s) (by rw [hold_frame])

/-- R45: a trip makes the bay FAULT. -/
theorem onlyBay_trip (b : Bay) (s : State) : OnlyBay b { s.bays[b] with state := .fault } s (trip b s) := by
  have faulted : OnlyBay b { s.bays[b] with state := .fault } s (s.modBay b (BayCtl.become .fault)) := onlyBay_modBay rfl
  have reported : SameRegistry (s.modBay b (BayCtl.become .fault))
      (presentAt .overcurrent b (s.trailerAt b) none (s.modBay b (BayCtl.become .fault))) := .of_eq rfl rfl rfl
  exact ((faulted.then reported).then (quiet_modConverter _ _).toSameRegistry).then
    (quiet_defrostLeavesServing b _).toSameRegistry

/-! # The registry -/

theorem BayCtl.coherent_congr {x y : BayCtl} (h : x.core = y.core) : x.coherent ↔ y.coherent := by
  obtain ⟨hs, hc, hr⟩ : x.state = y.state ∧ x.connected = y.connected ∧ x.ref = y.ref := by
    simpa only [BayCtl.core, Prod.mk.injEq] using h
  unfold BayCtl.coherent; rw [hs, hc, hr]

/-- Everything the registry asks but of what one bay's state implies. -/
structure RegistryBut (b : Bay) (s : State) : Prop where
  numbers : NumbersUnique s
  refs : RefsParked s
  coherent : ∀ c : Bay, c ≠ b → s.bays[c].coherent
  nodup : s.reader.queue.Nodup
  idle : s.reader.state = .idle ↔ s.reader.queue = []
  others : ∀ c : Bay, c ≠ b → (c ∈ s.reader.queue ↔ s.bays[c].state = .identifying)

theorem RegistryInv.but {s : State} (h : RegistryInv s) (b : Bay) : RegistryBut b s := by
  obtain ⟨hn, hr, hc, hd, hq, hi⟩ := h
  exact ⟨hn, hr, fun c _ => hc c, hd, hi, fun c _ => hq c⟩

theorem RegistryBut.inv {b : Bay} {s : State} (h : RegistryBut b s) (hc : s.bays[b].coherent)
    (hq : b ∈ s.reader.queue ↔ s.bays[b].state = .identifying) : RegistryInv s := by
  refine ⟨h.numbers, h.refs, fun c => ?_, h.nodup, fun c => ?_, h.idle⟩
  · by_cases e : c = b
    · rw [e]; exact hc
    · exact h.coherent c e
  · by_cases e : c = b
    · rw [e]; exact hq
    · exact h.others c e

theorem RegistryInv.coherent {s : State} (h : RegistryInv s) (b : Bay) : s.bays[b].coherent := h.2.2.1 b

theorem RegistryInv.queued {s : State} (h : RegistryInv s) (b : Bay) :
    b ∈ s.reader.queue ↔ s.bays[b].state = .identifying := h.2.2.2.2.1 b

/-- A record is known before as after. -/
theorem record_of_key {s t : State} {i : SlotIx} (h : t.table[i].map Record.key = s.table[i].map Record.key) {r : Record}
    (hr : t.table[i] = some r) : ∃ q, s.table[i] = some q ∧ q.number = r.number ∧ q.place.bay? = r.place.bay? := by
  rw [hr, Option.map_some, eq_comm, Option.map_eq_some_iff] at h
  obtain ⟨q, hq, hk⟩ := h
  exact ⟨q, hq, congrArg (·.1) hk, congrArg (·.2) hk⟩

theorem NumbersUnique.of_records {s t : State} (h : NumbersUnique s)
    (hr : ∀ i : SlotIx, t.table[i].map Record.key = s.table[i].map Record.key) : NumbersUnique t := by
  refine ⟨fun i r hi => ?_, fun i j r hi q hj e => ?_⟩
  · obtain ⟨r', hr', hn, -⟩ := record_of_key (hr i) hi
    exact hn ▸ h.1 i r' hr'
  · obtain ⟨r', hr', hn, -⟩ := record_of_key (hr i) hi
    obtain ⟨q', hq', hm, -⟩ := record_of_key (hr j) hj
    exact h.2 i j r' hr' q' hq' (by rw [hn, hm, e])

theorem RefsParked.of_records {s t : State} (h : RefsParked s)
    (hr : ∀ i : SlotIx, t.table[i].map Record.key = s.table[i].map Record.key)
    (hb : ∀ b : Bay, t.bays[b].ref = s.bays[b].ref) : RefsParked t := by
  intro b i
  rw [hb b, h b i]
  constructor
  · rintro ⟨r, hi, hp⟩
    obtain ⟨q, hq, -, he⟩ := record_of_key (hr i).symm hi
    exact ⟨q, hq, he.trans hp⟩
  · rintro ⟨r, hi, hp⟩
    obtain ⟨q, hq, -, he⟩ := record_of_key (hr i) hi
    exact ⟨q, hq, he.trans hp⟩

theorem BayBecomes.ref_kept {b : Bay} {x : BayCtl} {s t : State} (h : BayBecomes b x s t) (hx : x.ref = s.bays[b].ref) (c : Bay) :
    t.bays[c].ref = s.bays[c].ref := by
  by_cases hc : c = b
  · rw [hc, ← hx]; exact h.ref_at
  · exact h.ref_other hc

theorem RegistryBut.onlyBay {b : Bay} {x : BayCtl} {s t : State} (h : RegistryBut b s) (hb : OnlyBay b x s t)
    (hx : x.ref = s.bays[b].ref) : RegistryBut b t where
  numbers := h.numbers.of_records hb.records
  refs := h.refs.of_records hb.records (hb.bay.ref_kept hx)
  coherent c hc := (BayCtl.coherent_congr (hb.bay.other hc)).2 (h.coherent c hc)
  nodup := hb.queue ▸ h.nodup
  idle := by rw [hb.idle, hb.queue]; exact h.idle
  others c hc := by
    rw [hb.queue, hb.bay.state_other hc]
    exact h.others c hc

/-- What is the same to the registry leaves it consistent. -/
theorem RegistryInv.of_same {s t : State} (h : RegistryInv s) (g : SameRegistry s t) : RegistryInv t := by
  obtain ⟨hn, hr, hc, hd, hq, hi⟩ := h
  refine ⟨hn.of_records g.records, hr.of_records g.records g.ref, fun b => (BayCtl.coherent_congr (g.bays b)).2 (hc b),
    g.queue ▸ hd, fun b => ?_, ?_⟩
  · rw [g.queue, g.state b]; exact hq b
  · rw [g.idle, g.queue]; exact hi

/-- One bay changes with its reference kept and without joining or leaving the queue. -/
theorem RegistryInv.onlyBay {b : Bay} {x : BayCtl} {s t : State} (h : RegistryInv s) (hb : OnlyBay b x s t)
    (hx : x.ref = s.bays[b].ref) (hc : x.coherent) (hi : x.state = .identifying ↔ s.bays[b].state = .identifying) :
    RegistryInv t := by
  refine ((h.but b).onlyBay hb hx).inv ((BayCtl.coherent_congr hb.bay.at).2 hc) ?_
  rw [hb.queue, hb.bay.state, hi]
  exact h.queued b

/-! ## The identify queue (R56, R57, R64) -/

theorem Reader.takeHead_queue (now : Nat) (r : Reader) : (r.takeHead now).queue = r.queue := by
  unfold Reader.takeHead; split <;> rfl

/-- R57: a reader that takes its head is IDLE exactly without one. -/
theorem Reader.takeHead_idle (now : Nat) (r : Reader) : (r.takeHead now).state = .idle ↔ r.queue = [] := by
  unfold Reader.takeHead; split
  next h => simp [h]
  next h => simp [h, Reader.beginRead, Reader.beginAttempt]

theorem Reader.append_queue (now : Nat) (b : Bay) (r : Reader) : (r.append now b).queue = r.queue ++ [b] := by
  simp only [Reader.append]; split <;> rfl

theorem Reader.append_idle (now : Nat) (b : Bay) (r : Reader) : (r.append now b).state ≠ .idle := by
  simp only [Reader.append]; split <;> simp_all [Reader.beginRead, Reader.beginAttempt]

theorem Reader.remove_queue (now : Nat) (b : Bay) (r : Reader) : (r.remove now b).queue = r.queue.erase b := by
  unfold Reader.remove; split
  next h => rw [h]; rfl
  next head rest h =>
    rw [h]; split
    next e => rw [Reader.takeHead_queue, e, List.erase_cons_head]
    next e => exact (List.erase_cons_tail (by simpa using e)).symm

/-- R64: a bay that leaves the queue leaves the reader IDLE exactly without a head. -/
theorem Reader.remove_idle {r : Reader} (h : r.state = .idle ↔ r.queue = []) (now : Nat) (b : Bay) :
    (r.remove now b).state = .idle ↔ (r.remove now b).queue = [] := by
  unfold Reader.remove; split
  · exact h
  next head rest e =>
    split
    · rw [Reader.takeHead_idle, Reader.takeHead_queue]
    · simp [h, e]

theorem Reader.deliver_queue (now : Nat) (r : Reader) : (r.deliver now).queue = r.queue.tail := Reader.takeHead_queue now _

namespace RegistryBut

variable {b : Bay} {s : State}

/-- A change of the reader alone, which may concern the bay left out. -/
theorem modReader (h : RegistryBut b s) {f : Reader → Reader} (hd : (f s.reader).queue.Nodup)
    (hi : (f s.reader).state = .idle ↔ (f s.reader).queue = [])
    (ho : ∀ c, c ≠ b → (c ∈ (f s.reader).queue ↔ c ∈ s.reader.queue)) : RegistryBut b (s.modReader f) :=
  ⟨h.numbers, h.refs, h.coherent, hd, hi, fun c hc => (ho c hc).trans (h.others c hc)⟩

theorem append (h : RegistryBut b s) (hb : b ∉ s.reader.queue) (now : Nat) :
    RegistryBut b (s.modReader (Reader.append now b)) := by
  refine h.modReader ?_ ?_ fun c hc => ?_
  · rw [Reader.append_queue]
    exact List.nodup_append.2 ⟨h.nodup, List.nodup_singleton b, fun x hx y hy => by rintro rfl; simp_all⟩
  · rw [Reader.append_queue]; simp [Reader.append_idle]
  · rw [Reader.append_queue]; simp [hc]

theorem remove (h : RegistryBut b s) (now : Nat) : RegistryBut b (s.modReader (Reader.remove now b)) := by
  refine h.modReader ?_ (Reader.remove_idle h.idle now b) fun c hc => ?_
  · rw [Reader.remove_queue]; exact h.nodup.erase b
  · rw [Reader.remove_queue]; exact List.mem_erase_of_ne hc

theorem deliver (h : RegistryBut b s) {rest : List Bay} (hq : s.reader.queue = b :: rest) (now : Nat) :
    RegistryBut b (s.modReader (Reader.deliver now)) := by
  refine h.modReader ?_ ?_ fun c hc => ?_
  · rw [Reader.deliver_queue]; exact h.nodup.tail
  · rw [Reader.deliver_queue, Reader.deliver, Reader.takeHead_idle]
  · rw [Reader.deliver_queue, hq]; simp [hc]

end RegistryBut

end Sys2Proof.Machine

namespace Sys2Proof.Machine

/-! # Every step keeps the registry (O57)

Away from one bay the registry is kept by parking and departing there; what the bay itself must satisfy is then read off
from the state it has come to. -/

/-- R1: a record put in a slot keeps the numbers unique when no other slot has its number. -/
theorem NumbersUnique.put {s t : State} (h : NumbersUnique s) {i : SlotIx} {r : Record}
    (ht : t.table = s.table.set i.val (some r)) (h0 : r.number ≠ 0)
    (hr : ∀ j q, s.table[j] = some q → q.number = r.number → j = i) : NumbersUnique t := by
  refine ⟨fun j q hq => ?_, fun j k q hq p hp e => ?_⟩
  · rw [ht, vector_set_get] at hq; split at hq
    · cases hq; exact h0
    · exact h.1 j q hq
  · rw [ht, vector_set_get] at hq hp
    split at hq <;> split at hp
    next hj hk => rw [hj, hk]
    next hj hk => cases hq; exact hj.trans (hr k p hp e.symm).symm
    next hj hk => cases hp; exact (hr j q hq e).trans hk.symm
    · exact h.2 j k q hq p hp e

/-- R1: a slot set free. -/
theorem NumbersUnique.free {s t : State} (h : NumbersUnique s) {i : SlotIx} (ht : t.table = s.table.set i.val none) :
    NumbersUnique t := by
  have old : ∀ (j : SlotIx) (q : Record), q ∈ t.table[j] → q ∈ s.table[j] := by
    intro j q hq; rw [ht, vector_set_get] at hq; split at hq
    · cases hq
    · exact hq
  exact ⟨fun j q hq => h.1 j q (old j q hq), fun j k q hq p hp => h.2 j k q (old j q hq) p (old k p hp)⟩

/-- A record that can be parked brings a number of its own. -/
theorem Parkable.number_ne_zero {s : State} {i : SlotIx} {r : Record} (h : Parkable s i r) (hs : NumbersUnique s) :
    r.number ≠ 0 := by
  rcases h.2 with hr | ⟨-, h0, -⟩
  · exact hs.1 i r hr
  · exact h0

theorem Parkable.slot_of_number {s : State} {i : SlotIx} {r : Record} (h : Parkable s i r) (hs : NumbersUnique s)
    (j : SlotIx) (q : Record) (hq : s.table[j] = some q) (e : q.number = r.number) : j = i := by
  rcases h.2 with hr | ⟨-, -, hn⟩
  · exact hs.2 j i q hq r hr e
  · exact absurd e (slotOf_eq_none.1 hn j q hq)

/-- No bay refers to the slot of a record that can be parked. -/
theorem Parkable.not_referred {s : State} {i : SlotIx} {r : Record} (h : Parkable s i r) (hs : RefsParked s) (c : Bay) :
    s.bays[c].ref ≠ some i := by
  intro hc
  obtain ⟨q, hq, hp⟩ := (hs c i).1 hc
  rcases h.2 with hr | ⟨hr, -⟩
  · rw [hr] at hq; cases hq; rw [h.1] at hp; cases hp
  · rw [hr] at hq; cases hq

/-! ## Parking (R8) -/

theorem park_table (i : SlotIx) (r : Record) (b : Bay) (s : State) :
    (park i r b s).table = s.table.set i.val (some (r.park b s.timer.number s.doors[b].figures)) := by
  simp [park]

theorem park_reader (i : SlotIx) (r : Record) (b : Bay) (s : State) : (park i r b s).reader = s.reader := by
  rw [park_frame]

/-- R8, R41: the bay refers to the record and is SERVING, or FAULT where the over-current state is TRIPPED. -/
theorem park_bay (i : SlotIx) (r : Record) (b : Bay) (s : State) :
    BayBecomes b { s.bays[b] with state := s.doors[b].ovc.entry, ref := some i } s (park i r b s) := by
  unfold park
  generalize hu : raiseAt .parked b _ _ _ = u
  have hb : u.bays = s.bays.set b.val { s.bays[b] with ref := some i } := by rw [← hu]; simp
  have hd : u.doors = s.doors := by rw [← hu]; simp
  have referring : BayBecomes b { s.bays[b] with ref := some i } s u := bayBecomes_set hb rfl
  refine referring.after (y := { s.bays[b] with state := s.doors[b].ovc.entry, ref := some i }) ?_
  have entered := enterServing_bay b u
  rw [hb, vector_set_same, hd] at entered
  exact entered

/-- A bay that a match may settle: CONNECTED, without a reference, and out of the identify queue. -/
structure Vacant (b : Bay) (s : State) : Prop extends RegistryBut b s where
  ref : s.bays[b].ref = none
  connected : s.bays[b].connected = true
  absent : b ∉ s.reader.queue

theorem RegistryInv.vacant_of_held {s : State} {b : Bay} {h : Held} (hs : RegistryInv s) (hb : s.bays[b].state = .held h) :
    Vacant b s := by
  have hc := hs.coherent b
  rw [BayCtl.coherent, hb] at hc
  exact ⟨hs.but b, hc.1, hc.2.1, fun hq => by rw [hs.queued b, hb] at hq; cases hq⟩

theorem RegistryInv.vacant_of_head {s : State} {b : Bay} {rest : List Bay} (hs : RegistryInv s)
    (hq : s.reader.queue = b :: rest) (now : Nat) : Vacant b (s.modReader (Reader.deliver now)) := by
  have hb : s.bays[b].state = .identifying := (hs.queued b).1 (by simp [hq])
  have hc := hs.coherent b
  rw [BayCtl.coherent, hb] at hc
  refine ⟨(hs.but b).deliver hq now, hc.1, hc.2, ?_⟩
  have nodup := (hs.but b).nodup
  rw [State.modReader_reader, Reader.deliver_queue, hq]
  rw [hq] at nodup
  exact (List.nodup_cons.1 nodup).1

theorem Vacant.park {b : Bay} {s : State} (h : Vacant b s) {i : SlotIx} {r : Record} (hr : Parkable s i r) :
    RegistryInv (park i r b s) := by
  have bay := park_bay i r b s
  have hstate : (Machine.park i r b s).bays[b].state = s.doors[b].ovc.entry := bay.state
  have but : RegistryBut b (Machine.park i r b s) :=
    { numbers := h.numbers.put (park_table i r b s) (hr.number_ne_zero h.numbers) (hr.slot_of_number h.numbers)
      refs := by
        intro c j
        rw [park_table, vector_set_get]
        by_cases hc : c = b
        · have href : (Machine.park i r b s).bays[c].ref = some i := by rw [hc]; exact bay.ref_at
          rw [href, Option.some.injEq]
          split
          next hj => simp [hj, Record.park, Place.bay?, hc]
          next hj =>
            refine ⟨fun e => absurd e.symm hj, fun ⟨q, hq, hp⟩ => ?_⟩
            have := (h.refs c j).2 ⟨q, hq, hp⟩
            rw [hc, h.ref] at this; cases this
        · have href : (Machine.park i r b s).bays[c].ref = s.bays[c].ref := bay.ref_other hc
          rw [href]
          split
          next hj =>
            rw [hj]
            refine ⟨fun e => absurd e (hr.not_referred h.refs c), ?_⟩
            rintro ⟨q, hq, hp⟩
            cases hq
            exact absurd (Option.some.inj hp).symm hc
          · exact h.refs c j
      coherent := fun c hc => (BayCtl.coherent_congr (bay.other hc)).2 (h.coherent c hc)
      nodup := by rw [park_reader]; exact h.nodup
      idle := by rw [park_reader]; exact h.idle
      others := fun c hc => by
        rw [park_reader, h.others c hc, bay.state_other hc] }
  refine but.inv ((BayCtl.coherent_congr bay.at).2 ?_) ?_
  · cases s.doors[b].ovc <;> exact ⟨rfl, h.connected⟩
  · rw [park_reader, hstate]
    cases s.doors[b].ovc <;> simp [h.absent, OvcState.entry]

theorem Vacant.hold {b : Bay} {s : State} (h : Vacant b s) {x : Held} (hx : x.tag ≠ some 0) :
    RegistryInv (hold b x s) := by
  have held := onlyBay_hold b x s
  refine (h.toRegistryBut.onlyBay held rfl).inv ((BayCtl.coherent_congr held.bay.at).2 ⟨h.ref, h.connected, hx⟩) ?_
  rw [held.queue, held.bay.state]
  simp [h.absent]

theorem Vacant.settles {b : Bay} {s : State} (h : Vacant b s) : Settles RegistryInv b s :=
  ⟨fun _ _ hr => h.park hr, fun _ hx => h.hold hx⟩

/-! ## Departing (R10, R52) -/

/-- R10: the record of a bay is PARKED there no more, and the bay refers to none. -/
theorem RegistryBut.depart {b : Bay} {s : State} (h : RegistryBut b s) : RegistryBut b (depart b s) := by
  unfold Machine.depart
  cases hr : s.recordAt b with
  | none => exact h
  | some r =>
    obtain ⟨i, hi, hri⟩ := State.recordAt_eq_some.1 hr
    simp only [State.modParked_of_ref hi]
    generalize hu : raiseAt .left b _ _ _ = u
    have table : u.table = s.table.set i.val (some (r.depart b s.timer.number)) := by
      rw [← hu]; show s.table.set i.val (s.table[i].map _) = _; rw [hri]; rfl
    have reader : u.reader = s.reader := by rw [← hu]; rfl
    have bay : BayBecomes b { s.bays[b] with ref := none } s u := by
      refine bayBecomes_set (y := { s.bays[b] with ref := none }) ?_ rfl; rw [← hu]; rfl
    have gone : (r.depart b s.timer.number).place.bay? = none := by
      unfold Record.depart; cases r.place <;> rfl
    exact
      { numbers := h.numbers.put table (h.numbers.1 i r hri) fun j q hq e => h.numbers.2 j i q hq r hri e
        refs := by
          intro c j
          rw [table, vector_set_get]
          have here : ∀ d : Bay, s.bays[d].ref = some i → d = b := by
            intro d hd
            obtain ⟨q, hq, hp⟩ := (h.refs d i).1 hd
            obtain ⟨q', hq', hp'⟩ := (h.refs b i).1 hi
            rw [hri] at hq hq'; cases hq; cases hq'
            exact Option.some.inj (hp.symm.trans hp')
          by_cases hc : c = b
          · have href : u.bays[c].ref = none := by rw [hc]; exact bay.ref_at
            rw [href]
            split
            next hj => simp [gone]
            next hj =>
              refine ⟨fun e => (by cases e), fun ⟨q, hq, hp⟩ => ?_⟩
              have := (h.refs c j).2 ⟨q, hq, hp⟩
              rw [hc, hi] at this; exact absurd (Option.some.inj this).symm hj
          · rw [bay.ref_other hc]
            split
            next hj =>
              rw [hj]
              refine ⟨fun e => absurd (here c e) hc, fun ⟨q, hq, hp⟩ => ?_⟩
              cases hq; rw [gone] at hp; cases hp
            · exact h.refs c j
        coherent := fun c hc => (BayCtl.coherent_congr (bay.other hc)).2 (h.coherent c hc)
        nodup := by rw [reader]; exact h.nodup
        idle := by rw [reader]; exact h.idle
        others := fun c hc => by
          rw [reader, h.others c hc, bay.state_other hc] }

/-- R10: after a departure the bay refers to no record. -/
theorem RegistryBut.depart_ref {b : Bay} {s : State} (h : RegistryBut b s) :
    (Machine.depart b s).bays[b].ref = none := by
  unfold Machine.depart
  cases hr : s.recordAt b with
  | none =>
    cases hb : s.bays[b].ref with
    | none => simp only
    | some i =>
      obtain ⟨r, hi, -⟩ := (h.refs b i).1 hb
      rw [State.recordAt_of_ref hb, hi] at hr; cases hr
  | some r => simp

/-- R52: the reports and the end of the conditions at a bay change nothing of the registry. -/
theorem sameRegistry_ceaseAll (b : Bay) (s : State) : SameRegistry s (ceaseAll b s) :=
  .of_eq (by rw [ceaseAll_frame]) (by rw [ceaseAll_frame]) (by rw [ceaseAll_frame])

theorem RegistryBut.of_same {b : Bay} {s t : State} (h : RegistryBut b s) (g : SameRegistry s t) : RegistryBut b t :=
  h.onlyBay (x := s.bays[b]) ⟨g.records, fun c => by rw [g.bays c]; split <;> simp_all, g.queue, g.idle⟩ rfl

/-- A bay without a record and out of the queue may be EMPTY or DISABLED, UNCONNECTED. -/
theorem RegistryBut.emptied {b : Bay} {s : State} (h : RegistryBut b s) (ref : s.bays[b].ref = none)
    (absent : b ∉ s.reader.queue) {st : BayState} (hst : st = .empty ∨ st = .disabled) :
    RegistryInv ((s.modBay b fun x => { x.become st with connected := false, differing := 0 }).modDoor b
      fun _ => .unwatched) := by
  have bay : OnlyBay b { s.bays[b] with state := st, connected := false } s
      (s.modBay b fun x => { x.become st with connected := false, differing := 0 }) := onlyBay_modBay rfl
  refine RegistryInv.of_same (((h.onlyBay bay rfl).inv ((BayCtl.coherent_congr bay.bay.at).2 ?_) ?_)) (.of_eq rfl rfl rfl)
  · rcases hst with rfl | rfl
    · exact ⟨ref, rfl⟩
    · intro some; rw [ref] at some; cases some
  · rw [bay.queue, bay.bay.state]
    rcases hst with rfl | rfl <;> simp [absent]

/-- R52: a disconnected bay is EMPTY, or DISABLED as it was, without a record and out of the queue. -/
theorem registry_disconnect (b : Bay) : Keeps RegistryInv (disconnect b) := by
  intro s hs
  unfold disconnect; split
  · have left := (hs.but b).depart.of_same (sameRegistry_ceaseAll b _)
    have noRef : (ceaseAll b (depart b s)).bays[b].ref = none :=
      ((sameRegistry_ceaseAll b _).ref b).trans (hs.but b).depart_ref
    refine ((left.of_same (quiet_modConverter _ _).toSameRegistry).remove _).emptied noRef ?_ ?_
    · rw [State.modReader_reader, Reader.remove_queue]; exact left.nodup.not_mem_erase
    · split
      · exact .inr rfl
      · exact .inl rfl
  · exact hs

/-! ## The other operations at a bay -/

/-- R51, R56: a bay becomes IDENTIFYING and joins the queue. -/
theorem RegistryInv.identify {b : Bay} {s : State} (h : RegistryBut b s) (ref : s.bays[b].ref = none)
    (connected : s.bays[b].connected = true) (absent : b ∉ s.reader.queue) : RegistryInv (identify b s) := by
  have bay : OnlyBay b { s.bays[b] with state := .identifying } s (s.modBay b (BayCtl.become .identifying)) :=
    onlyBay_modBay rfl
  refine ((h.onlyBay bay rfl).append (by rw [bay.queue]; exact absent) _).inv
    ((BayCtl.coherent_congr bay.bay.at).2 ⟨ref, connected⟩) ?_
  rw [State.modReader_reader, Reader.append_queue]
  exact iff_of_true (by simp) bay.bay.state

/-- R41: a bay with a record, CONNECTED, enters SERVING. -/
theorem RegistryInv.enterServing {b : Bay} {s : State} (h : RegistryInv s) (ref : s.bays[b].ref.isSome = true)
    (connected : s.bays[b].connected = true) (hi : s.bays[b].state ≠ .identifying) : RegistryInv (enterServing b s) := by
  refine h.onlyBay (onlyBay_enterServing b s) rfl ?_ ?_
  · cases s.doors[b].ovc <;> exact ⟨ref, connected⟩
  · exact iff_of_false (by cases s.doors[b].ovc <;> nofun) hi

/-- R51: BAY_ENABLE. -/
theorem registry_enable (b : Bay) : Keeps RegistryInv (enable b) := by
  intro s hs
  unfold enable
  cases hb : s.bays[b].state with
  | disabled =>
    have coherent := hs.coherent b
    rw [BayCtl.coherent, hb] at coherent
    have absent : b ∉ s.reader.queue := fun hq => by rw [hs.queued b, hb] at hq; cases hq
    cases href : s.bays[b].ref with
    | some i => exact hs.enterServing (by rw [href]; rfl) (coherent (by rw [href]; rfl)) (by rw [hb]; nofun)
    | none =>
      simp only
      split
      next hc => exact RegistryInv.identify (hs.but b) href hc absent
      next hc =>
        exact hs.onlyBay (x := { s.bays[b] with state := .empty }) (onlyBay_modBay rfl) rfl
          ⟨href, by simpa using hc⟩ (iff_of_false nofun (by rw [hb]; nofun))
  | _ => exact hs

/-- R49: BAY_DISABLE. -/
theorem registry_disable (b : Bay) : Keeps RegistryInv (disable b) := by
  intro s hs
  have coherent := hs.coherent b
  have bay (t : State) (g : SameRegistry s t) :
      OnlyBay b { s.bays[b] with state := .disabled } s (t.modBay b (BayCtl.become .disabled)) :=
    .after g (onlyBay_modBay (by simp only [BayCtl.core, BayCtl.become, g.connected, g.ref]))
  have disabled (t : State) (g : OnlyBay b { s.bays[b] with state := .disabled } s t)
      (hi : s.bays[b].state ≠ .identifying)
      (hc : s.bays[b].ref.isSome = true → s.bays[b].connected = true) : RegistryInv t :=
    hs.onlyBay g rfl hc (iff_of_false nofun hi)
  unfold disable
  cases hb : s.bays[b].state with
  | disabled => exact hs
  | empty =>
    rw [BayCtl.coherent, hb] at coherent
    exact disabled _ (bay s (.refl s)) (by rw [hb]; nofun) (by rw [coherent.1]; nofun)
  | identifying =>
    rw [BayCtl.coherent, hb] at coherent
    have out := (((hs.but b).onlyBay (bay s (.refl s)) rfl).remove s.timer.timeUs)
    refine out.inv ((BayCtl.coherent_congr (bay s (.refl s)).bay.at).2 fun _ => coherent.2) ?_
    rw [State.modReader_reader, Reader.remove_queue]
    refine iff_of_false (hs.but b).nodup.not_mem_erase ?_
    rw [State.modReader_bays, (bay s (.refl s)).bay.state]; nofun
  | held x =>
    rw [BayCtl.coherent, hb] at coherent
    exact disabled _ (bay _ (.of_eq (by simp) (by simp) (by simp))) (by rw [hb]; nofun) fun _ => coherent.2.1
  | serving =>
    rw [BayCtl.coherent, hb] at coherent
    exact disabled _ (((bay s (.refl s)).then (quiet_modConverter _ _).toSameRegistry).then
      (quiet_defrostLeavesServing b _).toSameRegistry) (by rw [hb]; nofun) fun _ => coherent.2
  | fault =>
    rw [BayCtl.coherent, hb] at coherent
    exact disabled _ (bay _ (.of_eq rfl rfl rfl)) (by rw [hb]; nofun) fun _ => coherent.2

/-- R38: a connect. -/
theorem registry_connect (b : Bay) : Keeps RegistryInv (connect b) := by
  intro s hs
  have coherent := hs.coherent b
  unfold connect; split
  · exact hs
  next hc =>
    have bay : OnlyBay b { s.bays[b] with connected := true } s
        (s.modBay b fun x => { x with connected := true, differing := 0 }) := onlyBay_modBay rfl
    have seen := bay.then (u := (s.modBay b fun x => { x with connected := true, differing := 0 }).modDoor b
      fun _ => .unwatched) (.of_eq rfl rfl rfl)
    rw [BayCtl.coherent] at coherent
    simp only
    cases hb : s.bays[b].state with
    | empty =>
      rw [hb] at coherent
      refine RegistryInv.identify ((hs.but b).onlyBay seen rfl) ?_ (congrArg (·.2.1) seen.bay.at) ?_
      · exact (congrArg (·.2.2) seen.bay.at).trans coherent.1
      · rw [seen.queue, hs.queued b, hb]; nofun
    | disabled => exact hs.onlyBay seen rfl (by rw [BayCtl.coherent, hb]; exact fun _ => rfl) Iff.rfl
    | identifying => rw [hb] at coherent; exact absurd coherent.2 hc
    | held x => rw [hb] at coherent; exact absurd coherent.2.1 hc
    | serving => rw [hb] at coherent; exact absurd coherent.2 hc
    | fault => rw [hb] at coherent; exact absurd coherent.2 hc

/-! ## What changes no record's place, no bay and no queue -/

theorem sameRegistry_endFuelJudgements (b : Bay) (s : State) : SameRegistry s (endFuelJudgements b s) :=
  .of_eq (by rw [endFuelJudgements_frame]) (by rw [endFuelJudgements_frame]) (by rw [endFuelJudgements_frame])

theorem sameRegistry_judgeDoorLong (b : Bay) (s : State) : SameRegistry s (judgeDoorLong b s) :=
  .of_eq (by rw [judgeDoorLong_frame]) (by rw [judgeDoorLong_frame]) (by rw [judgeDoorLong_frame])

theorem sameRegistry_endDoorLong (b : Bay) (s : State) : SameRegistry s (endDoorLong b s) :=
  .of_eq (by simp [endDoorLong]) (by simp [endDoorLong]) (by simp [endDoorLong])

theorem sameRegistry_report (before after : Bool) (k : BayKind) (b : Bay) (n : Option TrailerNo) (v : NoticeValue)
    (s : State) : SameRegistry s (report before after k b n v s) := by
  cases before <;> cases after <;> exact .of_eq rfl rfl rfl

theorem sameRegistry_ceaseIf (p : Bool) (k : BayKind) (b : Bay) (s : State) : SameRegistry s (ceaseIf p k b s) := by
  cases p <;> exact .of_eq rfl rfl rfl

theorem sameRegistry_modCond (b : Bay) (f : Conditions → Conditions) (s : State) : SameRegistry s (s.modCond b f) :=
  .of_eq rfl rfl rfl

theorem sameRegistry_modParked {b : Bay} {f : Record → Record} (s : State) (h : ∀ r, (f r).key = r.key) :
    SameRegistry s (s.modParked b f) := (quiet_modParked s h).toSameRegistry

theorem sameRegistry_filteredUpdate (b : Bay) (r : Record) (l : Int) (s : State) :
    SameRegistry s (filteredUpdate b r l s) := by
  unfold filteredUpdate
  extract_lets f base low drop written judged
  have hw : SameRegistry s written := sameRegistry_modParked s fun _ => rfl
  exact ((hw.trans (sameRegistry_modCond b _ written)).trans (sameRegistry_report _ _ _ b _ _ _)).trans
    (sameRegistry_report _ _ _ b _ _ _)

theorem sameRegistry_fuelResult (b : Bay) (n : Nat) (s : State) : SameRegistry s (fuelResult b n s) := by
  unfold fuelResult
  cases s.recordAt b with
  | none => exact .refl s
  | some r =>
    simp only
    generalize s.readCurve .fuel r.settings.fuelCurve n = level
    have sampled : SameRegistry s (s.modParked b (Record.sampled n s.timer.number level)) :=
      sameRegistry_modParked s fun _ => rfl
    split
    · have cleared := ((sampled.trans (sameRegistry_modParked (b := b)
        (f := fun x => { x with fuel := { x.fuel with errorRun := 0 } }) _ fun _ => rfl)).trans
        (sameRegistry_ceaseIf s.conditions[b].senderFault .senderFault b _)).trans
        (sameRegistry_modCond b (fun c => { c with senderFault := false }) _)
      cases level with
      | none => exact cleared
      | some l => exact cleared.trans (sameRegistry_filteredUpdate b r l _)
    · exact sampled

theorem sameRegistry_fuelError (b : Bay) (e : ErrorKind) (s : State) : SameRegistry s (fuelError b e s) := by
  unfold fuelError
  cases s.recordAt b with
  | none => exact .refl s
  | some r =>
    simp only
    generalize bump Config.errorRunMax r.fuel.errorRun = run
    have counted : SameRegistry s (s.modParked b fun x => { x with fuel := { x.fuel with errorRun := run, lastError := e } }) :=
      sameRegistry_modParked s fun _ => rfl
    split
    · exact (counted.trans (sameRegistry_modCond b _ _)).trans (sameRegistry_report _ _ _ b _ _ _)
    · exact counted

theorem sameRegistry_probeResult (b : Bay) (n : Nat) (s : State) : SameRegistry s (probeResult b n s) := by
  unfold probeResult
  cases s.recordAt b with
  | none => exact .refl s
  | some r =>
    simp only
    generalize s.readCurve .probe r.settings.probeCurve n = coil
    have written : SameRegistry s (s.modParked b fun x => { x with
        probe := { x.probe with lastResistance := some n, errorRun := 0, coil := coil } }) :=
      sameRegistry_modParked s fun _ => rfl
    have cleared := (written.trans (sameRegistry_ceaseIf s.conditions[b].probeFault .probeFault b _)).trans
      (sameRegistry_modCond b (fun c => { c with probeFault := false }) _)
    split
    · split
      · exact cleared.trans (quiet_endHeating b r _).toSameRegistry
      · exact cleared
    · exact cleared

theorem sameRegistry_probeError (b : Bay) (e : ErrorKind) (s : State) : SameRegistry s (probeError b e s) := by
  unfold probeError
  cases s.recordAt b with
  | none => exact .refl s
  | some r =>
    simp only
    generalize bump Config.errorRunMax r.probe.errorRun = run
    have counted : SameRegistry s (s.modParked b fun x => { x with probe := { x.probe with errorRun := run, lastError := e } }) :=
      sameRegistry_modParked s fun _ => rfl
    split
    · exact (counted.trans (sameRegistry_modCond b _ _)).trans (sameRegistry_report _ _ _ b _ _ _)
    · exact counted

/-- R73: a reading handed on writes figures of a record and reports conditions. -/
theorem sameRegistry_deliverReading (ch : Channel) (x : Reading) (s : State) : SameRegistry s (deliverReading ch x s) := by
  unfold deliverReading; split
  · exact sameRegistry_fuelResult _ _ s
  · exact sameRegistry_fuelError _ _ s
  · exact sameRegistry_probeResult _ _ s
  · exact sameRegistry_probeError _ _ s

/-- R131 to R133: the check point may return a record to WAITING. -/
theorem sameRegistry_checkPoint (s : State) : SameRegistry s (checkPoint s) := by
  have modFeeder (f : Feeder → Feeder) (s : State) : SameRegistry s (s.modFeeder f) := .of_eq rfl rfl rfl
  have modNotices (f : Notices → Notices) (s : State) : SameRegistry s (s.modNotices f) := .of_eq rfl rfl rfl
  unfold checkPoint; split
  · unfold sagVerdict
    extract_lets shed
    have hs : SameRegistry s shed := by
      simp only [shed]; split
      · exact (modFeeder _ s).trans (quiet_heatingToWaiting _ _).toSameRegistry
      · exact modFeeder _ s
    split
    · exact (hs.trans (modNotices _ _)).trans (modFeeder _ _)
    · exact hs.trans (modFeeder _ _)
  · unfold clearVerdict
    simp only
    split
    · exact ((modFeeder _ s).trans (modNotices _ _)).trans (modFeeder _ _)
    · exact (modFeeder _ s).trans (modFeeder _ _)

/-! ## The registry is kept by all work -/

/-- A state known as the reset state is consistent. -/
theorem registry_beginReset (cause : ResetCause) (s : State) : RegistryInv (beginReset cause s) :=
  registryInv_reset.of_same (.of_eq rfl rfl rfl)

theorem registry_book {s : State} (hs : RegistryInv s) {i : SlotIx} {r : Record} (hp : Parkable s i r) :
    RegistryInv (s.putSlot i (some r)) := by
  obtain ⟨hn, hr, hc, hq⟩ := hs
  refine ⟨hn.put rfl (hp.number_ne_zero hn) (hp.slot_of_number hn), fun c j => ?_, hc, hq⟩
  rw [State.putSlot_bays, State.putSlot_table, vector_set_get]; split
  next hj =>
    rw [hj]
    exact iff_of_false (hp.not_referred hr c) (by rintro ⟨q, hq, hb⟩; cases hq; rw [hp.1] at hb; cases hb)
  · exact hr c j

theorem registry_retire {s : State} (hs : RegistryInv s) {i : SlotIx} {r : Record} (hi : s.table[i] = some r)
    (hp : r.place.bay? = none) : RegistryInv (s.putSlot i none) := by
  obtain ⟨hn, hr, hc, hq⟩ := hs
  have parkable : Parkable s i r := ⟨hp, .inl hi⟩
  refine ⟨hn.free rfl, fun c j => ?_, hc, hq⟩
  rw [State.putSlot_bays, State.putSlot_table, vector_set_get]; split
  next hj => rw [hj]; exact iff_of_false (parkable.not_referred hr c) (by rintro ⟨q, hq, -⟩; cases hq)
  · exact hr c j

theorem registry_keptByWork : KeptByWork RegistryInv where
  quiet _ _ g hs := hs.of_same g.toSameRegistry
  reset := registry_beginReset
  book s i n x hs hn hm hi := registry_book hs ⟨rfl, .inr ⟨hi, hn, hm⟩⟩
  retire s i r hs hi hp := registry_retire hs hi hp
  heldTag s b h hs hb := by
    have coherent := hs.coherent b
    rw [BayCtl.coherent, hb] at coherent
    exact coherent.2.2
  held s b h hs hb := (hs.vacant_of_held hb).settles
  head s b rest now hs hq := (hs.vacant_of_head hq now).settles
  enable := registry_enable
  disable := registry_disable
  clearFault s b hs hb := by
    have coherent := hs.coherent b
    rw [BayCtl.coherent, hb] at coherent
    exact (hs.of_same (t := ceaseAt .overcurrent b s) (.of_eq rfl rfl rfl)).enterServing coherent.1 coherent.2
      (by rw [ceaseAt_bays, hb]; nofun)
  connect := registry_connect
  disconnect := registry_disconnect
  trip s b hs hb := by
    have coherent := hs.coherent b
    rw [BayCtl.coherent, hb] at coherent
    exact hs.onlyBay (onlyBay_trip b s) rfl coherent (iff_of_false nofun (by rw [hb]; nofun))
  deliverReading ch x s hs := hs.of_same (sameRegistry_deliverReading ch x s)
  endFuelJudgements b s hs := hs.of_same (sameRegistry_endFuelJudgements b s)
  endFuelDrop b s hs := hs.of_same ((sameRegistry_ceaseIf _ _ b s).trans (sameRegistry_modCond b _ _))
  judgeDoorLong s b hs _ := hs.of_same (sameRegistry_judgeDoorLong b s)
  endDoorLong b s hs := hs.of_same (sameRegistry_endDoorLong b s)
  checkPoint s hs := hs.of_same (sameRegistry_checkPoint s)

/-- Settles O57: the registry is kept by quiet work, and by each operation that is not. -/
theorem stepKeepsTheRegistry : Obligations.StepKeepsTheRegistry := fun _ _ hs ht => registry_keptByWork.step hs ht

end Sys2Proof.Machine

namespace Sys2Proof.Machine

/-! # Every step keeps the present flags with their sources (O59)

A bay's flags follow from its state, its conditions and DOOR_LONG (`BayKind.heldBy`). An operation at one bay leaves the
flags and sources of every other bay alone (`AwayFrom`); at the bay itself `Flags` says which flags stand, and one lemma a
report says how they move. -/

/-- Whether a condition kind is present at a bay in a state, with the conditions held for it and DOOR_LONG (Table 49). -/
def BayKind.heldBy (st : BayState) (c : Conditions) (long : Bool) : BayKind → Bool
  | .tagFail => st == .held .tagFail
  | .tagConflict => match st with | .held (.conflict _) => true | _ => false
  | .tableFull => match st with | .held (.tableFull _) => true | _ => false
  | .overcurrent => st == .fault
  | .probeFault => c.probeFault
  | .fuelLow => c.fuelLow
  | .fuelDrop => c.fuelDrop
  | .senderFault => c.senderFault
  | .doorLong => long
  | .parked | .left | .defrostEnd | .defrostLate | .defrostLong | .doorGuard => false

theorem holds_eq (s : State) (k : BayKind) (b : Bay) :
    s.holds k b = k.heldBy s.bays[b].state s.conditions[b] s.doors[b].doorLong := by cases k <;> rfl

/-- The present flag of a kind at a bay. -/
def State.flagAt (s : State) (b : Bay) (k : BayKind) : Bool := s.notices.flag (.bay k b)

/-- The flags of a bay are those of the state `st` with the bay's conditions and DOOR_LONG. -/
def Flags (b : Bay) (st : BayState) (s : State) : Prop :=
  ∀ k, s.flagAt b k = k.heldBy st s.conditions[b] s.doors[b].doorLong

/-- A state of a bay in which neither a held condition nor OVERCURRENT is present. -/
def BayState.plain : BayState → Prop
  | .held _ | .fault => False
  | .empty | .identifying | .serving | .disabled => True

theorem heldBy_plain {st : BayState} (h : st.plain) (c : Conditions) (long : Bool) (k : BayKind) :
    k.heldBy st c long = k.heldBy .empty c long := by
  cases st with
  | held x => exact h.elim
  | fault => exact h.elim
  | _ => cases k <;> rfl

theorem Flags.plain {b : Bay} {st st' : BayState} {s : State} (h : Flags b st s) (hst : st.plain) (hst' : st'.plain) :
    Flags b st' s := fun k => by rw [h k, heldBy_plain hst, heldBy_plain hst']

/-- What `Flags` speaks of stays the same. -/
theorem Flags.of_eq {b : Bay} {st : BayState} {s t : State} (h : Flags b st s) (hf : ∀ k, t.flagAt b k = s.flagAt b k)
    (hc : t.conditions[b] = s.conditions[b]) (hd : t.doors[b].doorLong = s.doors[b].doorLong) : Flags b st t := by
  intro k; rw [hf, hc, hd]; exact h k

theorem Flags.quiet {b : Bay} {st : BayState} {s t : State} (h : Flags b st s) (g : Quiet s t) : Flags b st t :=
  h.of_eq (fun _ => g.flags _) (by rw [g.conditions]) (g.doorLong b)

/-! ## The reports at a bay -/

theorem flagAt_presentAt (k : BayKind) (b : Bay) (n : Option TrailerNo) (v : Option NoticeValue) (s : State) (l : BayKind) :
    (presentAt k b n v s).flagAt b l = if l = k then true else s.flagAt b l := by
  simp [State.flagAt]

theorem flagAt_ceaseAt (k : BayKind) (b : Bay) (s : State) (l : BayKind) :
    (ceaseAt k b s).flagAt b l = if l = k then false else s.flagAt b l := by
  simp [State.flagAt]

theorem flagAt_ceaseIf (p : Bool) (k : BayKind) (b : Bay) (s : State) (l : BayKind) :
    (ceaseIf p k b s).flagAt b l = if p = true ∧ l = k then false else s.flagAt b l := by
  cases p
  · simp [ceaseIf]
  · simp [ceaseIf, flagAt_ceaseAt]

/-- A change of presence that is reported. -/
theorem flagAt_report {before : Bool} {k : BayKind} {b : Bay} {s : State} (h : s.flagAt b k = before) (after : Bool)
    (n : Option TrailerNo) (v : NoticeValue) (l : BayKind) :
    (report before after k b n v s).flagAt b l = if l = k then after else s.flagAt b l := by
  have same (p : Bool) (hp : s.flagAt b k = p) : s.flagAt b l = if l = k then p else s.flagAt b l := by
    split
    next e => rw [e, hp]
    · rfl
  cases before <;> cases after
  · exact same false h
  · exact flagAt_presentAt k b n (some v) s l
  · exact flagAt_ceaseAt k b s l
  · exact same true h

/-- R14: the held condition of a HELD bay ceases. -/
theorem Flags.ceaseHeld {b : Bay} {s : State} (h : Flags b s.bays[b].state s) (hf : s.bays[b].state ≠ .fault) :
    Flags b .empty (ceaseHeld b s) := by
  have other (hp : s.bays[b].state.plain) : Flags b .empty s := h.plain hp trivial
  unfold Machine.ceaseHeld
  cases hb : s.bays[b].state with
  | held x =>
    intro k
    show (ceaseAt x.kind b s).flagAt b k = _
    rw [flagAt_ceaseAt, h k, hb]
    cases x <;> cases k <;> rfl
  | fault => exact absurd hb hf
  | empty => exact other (by rw [hb]; trivial)
  | identifying => exact other (by rw [hb]; trivial)
  | serving => exact other (by rw [hb]; trivial)
  | disabled => exact other (by rw [hb]; trivial)

/-- R14: the condition of a held reason becomes present. -/
theorem Flags.presentHeld {b : Bay} {s : State} (h : Flags b .empty s) (x : Held) (n : Option TrailerNo)
    (v : Option NoticeValue) : Flags b (.held x) (presentAt x.kind b n v s) := by
  intro k
  rw [flagAt_presentAt, h k]
  cases x <;> cases k <;> rfl

/-- R47: OVERCURRENT becomes present. -/
theorem Flags.presentOvercurrent {b : Bay} {s : State} (h : Flags b .empty s) (n : Option TrailerNo)
    (v : Option NoticeValue) : Flags b .fault (presentAt .overcurrent b n v s) := by
  intro k
  rw [flagAt_presentAt, h k]
  cases k <;> rfl

/-- R48: OVERCURRENT ceases. -/
theorem Flags.ceaseOvercurrent {b : Bay} {s : State} (h : Flags b .fault s) : Flags b .empty (ceaseAt .overcurrent b s) := by
  intro k
  rw [flagAt_ceaseAt, h k]
  cases k <;> rfl

/-- R41, R47: an entry to SERVING brings the flags of the state it ends in. -/
theorem Flags.enterServing {b : Bay} {s : State} (h : Flags b .empty s) :
    Flags b s.doors[b].ovc.entry (enterServing b s) := by
  unfold Machine.enterServing
  cases s.doors[b].ovc with
  | clear => exact h.plain (st' := .serving) trivial trivial
  | tripped => exact Flags.presentOvercurrent (s := s.modBay b (BayCtl.become .fault)) h _ _

/-! ## Away from a bay -/

/-- Every other bay's flags and sources, and those of FEEDER_SAG, are the same. -/
structure AwayFrom (b : Bay) (s t : State) : Prop where
  bays : ∀ c : Bay, c ≠ b → t.bays[c].core = s.bays[c].core
  conditions : ∀ c : Bay, c ≠ b → t.conditions[c] = s.conditions[c]
  doorLong : ∀ c : Bay, c ≠ b → t.doors[c].doorLong = s.doors[c].doorLong
  flags : ∀ c : Bay, c ≠ b → ∀ k, t.flagAt c k = s.flagAt c k
  sag : t.notices.flag .feederSag = s.notices.flag .feederSag
  verdict : t.feeder.verdict = s.feeder.verdict

namespace AwayFrom

variable {b : Bay} {s t u : State}

theorem trans (h : AwayFrom b s t) (g : AwayFrom b t u) : AwayFrom b s u :=
  ⟨fun c hc => (g.bays c hc).trans (h.bays c hc), fun c hc => (g.conditions c hc).trans (h.conditions c hc),
    fun c hc => (g.doorLong c hc).trans (h.doorLong c hc), fun c hc k => (g.flags c hc k).trans (h.flags c hc k),
    g.sag.trans h.sag, g.verdict.trans h.verdict⟩

theorem refl (b : Bay) (s : State) : AwayFrom b s s :=
  ⟨fun _ _ => rfl, fun _ _ => rfl, fun _ _ => rfl, fun _ _ _ => rfl, rfl, rfl⟩

theorem quiet (h : Quiet s t) : AwayFrom b s t :=
  ⟨fun c _ => h.bays c, fun c _ => by rw [h.conditions], fun c _ => h.doorLong c, fun _ _ _ => h.flags _, h.flags _,
    h.verdict⟩

theorem presentAt (k : BayKind) (n : Option TrailerNo) (v : Option NoticeValue) : AwayFrom b s (presentAt k b n v s) :=
  ⟨fun _ _ => rfl, fun _ _ => rfl, fun _ _ => rfl, fun c hc l => by simp [State.flagAt, hc], by simp, rfl⟩

theorem ceaseAt (k : BayKind) : AwayFrom b s (ceaseAt k b s) :=
  ⟨fun _ _ => rfl, fun _ _ => rfl, fun _ _ => rfl, fun c hc l => by simp [State.flagAt, hc], by simp, rfl⟩

theorem ceaseIf (p : Bool) (k : BayKind) : AwayFrom b s (ceaseIf p k b s) := by
  cases p
  · exact refl b s
  · exact ceaseAt k

theorem report (before after : Bool) (k : BayKind) (n : Option TrailerNo) (v : NoticeValue) :
    AwayFrom b s (report before after k b n v s) := by
  cases before <;> cases after
  · exact refl b s
  · exact presentAt k n (some v)
  · exact ceaseAt k
  · exact refl b s

theorem ceaseHeld : AwayFrom b s (ceaseHeld b s) := by
  unfold Machine.ceaseHeld; split
  · exact ceaseAt _
  all_goals exact refl b s

theorem modBay (f : BayCtl → BayCtl) : AwayFrom b s (s.modBay b f) :=
  ⟨fun c hc => by rw [State.modBay_bays, vector_set_other _ _ hc], fun _ _ => rfl, fun _ _ => rfl, fun _ _ _ => rfl, rfl,
    rfl⟩

theorem modCond (f : Conditions → Conditions) : AwayFrom b s (s.modCond b f) :=
  ⟨fun _ _ => rfl, fun c hc => by rw [State.modCond_conditions, vector_set_other _ _ hc], fun _ _ => rfl,
    fun _ _ _ => rfl, rfl, rfl⟩

theorem modDoor (f : DoorWatch → DoorWatch) : AwayFrom b s (s.modDoor b f) :=
  ⟨fun _ _ => rfl, fun _ _ => rfl, fun c hc => by rw [State.modDoor_doors, vector_set_other _ _ hc], fun _ _ _ => rfl,
    rfl, rfl⟩

theorem modReader (f : Reader → Reader) : AwayFrom b s (s.modReader f) :=
  ⟨fun _ _ => rfl, fun _ _ => rfl, fun _ _ => rfl, fun _ _ _ => rfl, rfl, rfl⟩

theorem putSlot (i : SlotIx) (r : Option Record) : AwayFrom b s (s.putSlot i r) :=
  ⟨fun _ _ => rfl, fun _ _ => rfl, fun _ _ => rfl, fun _ _ _ => rfl, rfl, rfl⟩

theorem modParked (f : Record → Record) : AwayFrom b s (s.modParked b f) := by
  unfold State.modParked; split
  · exact putSlot _ _
  · exact refl b s

theorem enterServing : AwayFrom b s (enterServing b s) := by
  unfold Machine.enterServing; split
  · exact (modBay _).trans (quiet (quiet_modConverter _ _))
  · exact (modBay _).trans (presentAt _ _ _)

end AwayFrom

/-- The flags and sources of every bay but one, and of FEEDER_SAG, agree. -/
structure PresenceBut (b : Bay) (s : State) : Prop where
  flags : ∀ c : Bay, c ≠ b → Flags c s.bays[c].state s
  sag : s.notices.flag .feederSag = (s.feeder.verdict == .sag)
  conditions : ∀ c : Bay, c ≠ b → s.bays[c].ref = none → s.conditions[c] = .none
  doorLong : ∀ c : Bay, c ≠ b → s.bays[c].connected = false → s.doors[c].doorLong = false

theorem PresenceInv.flags {s : State} (h : PresenceInv s) (b : Bay) : Flags b s.bays[b].state s := by
  intro k; rw [← holds_eq]; exact h.1 k b

theorem PresenceInv.conditions {s : State} (h : PresenceInv s) (b : Bay) : s.bays[b].ref = none → s.conditions[b] = .none :=
  h.2.2.1 b

theorem PresenceInv.doorLong {s : State} (h : PresenceInv s) (b : Bay) :
    s.bays[b].connected = false → s.doors[b].doorLong = false := h.2.2.2 b

theorem PresenceInv.but {s : State} (h : PresenceInv s) (b : Bay) : PresenceBut b s :=
  ⟨fun c _ => h.flags c, h.2.1, fun c _ => h.conditions c, fun c _ => h.doorLong c⟩

theorem PresenceBut.away {b : Bay} {s t : State} (h : PresenceBut b s) (g : AwayFrom b s t) : PresenceBut b t := by
  refine ⟨fun c hc => ?_, by rw [g.sag, g.verdict]; exact h.sag, fun c hc => ?_, fun c hc => ?_⟩
  · rw [show t.bays[c].state = s.bays[c].state from congrArg (·.1) (g.bays c hc)]
    exact (h.flags c hc).of_eq (g.flags c hc) (g.conditions c hc) (g.doorLong c hc)
  · rw [show t.bays[c].ref = s.bays[c].ref from congrArg (·.2.2) (g.bays c hc), g.conditions c hc]
    exact h.conditions c hc
  · rw [show t.bays[c].connected = s.bays[c].connected from congrArg (·.2.1) (g.bays c hc), g.doorLong c hc]
    exact h.doorLong c hc

/-- What a bay must satisfy for its flags and sources to agree. -/
structure PresenceHere (b : Bay) (s : State) : Prop where
  flags : Flags b s.bays[b].state s
  conditions : s.bays[b].ref = none → s.conditions[b] = .none
  doorLong : s.bays[b].connected = false → s.doors[b].doorLong = false

theorem PresenceBut.inv {b : Bay} {s : State} (h : PresenceBut b s) (g : PresenceHere b s) : PresenceInv s := by
  refine ⟨fun k c => ?_, h.sag, fun c => ?_, fun c => ?_⟩
  · rw [holds_eq]
    by_cases hc : c = b
    · rw [hc]; exact g.flags k
    · exact h.flags c hc k
  · by_cases hc : c = b
    · rw [hc]; exact g.conditions
    · exact h.conditions c hc
  · by_cases hc : c = b
    · rw [hc]; exact g.doorLong
    · exact h.doorLong c hc

/-- Work at one bay: it suffices to look there. -/
theorem PresenceInv.of_away {b : Bay} {s t : State} (h : PresenceInv s) (g : AwayFrom b s t) (ht : PresenceHere b t) :
    PresenceInv t := ((h.but b).away g).inv ht

theorem PresenceInv.quiet {s t : State} (h : PresenceInv s) (g : Quiet s t) : PresenceInv t := by
  refine h.of_away (b := 0) (.quiet g) ⟨?_, ?_, ?_⟩
  · rw [g.state]; exact (h.flags 0).quiet g
  · rw [g.ref, g.conditions]; exact h.conditions 0
  · rw [g.connected, g.doorLong]; exact h.doorLong 0

/-! ## Bays -/

section
variable {b : Bay} {s : State}

/-- Work that brings a bay to the state whose flags stand. -/
theorem PresenceInv.becomes (h : PresenceInv s) {t : State} {x : BayCtl} (g : AwayFrom b s t) (hb : BayBecomes b x s t)
    (hf : Flags b x.state t) (hc : t.conditions[b] = s.conditions[b]) (hd : t.doors[b].doorLong = s.doors[b].doorLong)
    (hr : x.ref = none → s.bays[b].ref = none) (hx : x.connected = s.bays[b].connected) : PresenceInv t := by
  refine h.of_away g ⟨?_, ?_, ?_⟩
  · rw [hb.state]; exact hf
  · rw [hb.ref_at, hc]; exact fun e => h.conditions b (hr e)
  · rw [show t.bays[b].connected = x.connected from congrArg (·.2.1) hb.at, hx, hd]; exact h.doorLong b

theorem PresenceInv.enterServing (h : PresenceInv s) (hf : Flags b .empty s) : PresenceInv (enterServing b s) :=
  h.becomes .enterServing (enterServing_bay b s) hf.enterServing (by rw [enterServing_conditions])
    (by rw [enterServing_doors]) id rfl

theorem PresenceInv.hold (h : PresenceInv s) (hf : s.bays[b].state ≠ .fault) (x : Held) : PresenceInv (hold b x s) := by
  unfold Machine.hold; split
  · exact h
  · refine h.becomes (x := BayCtl.become (.held x) s.bays[b]) ?_ (bayBecomes_set (by simp) rfl) ?_ ?_ ?_ id rfl
    · exact (AwayFrom.ceaseHeld.trans (.modBay _)).trans (.presentAt _ _ _)
    · exact Flags.presentHeld (s := (ceaseHeld b s).modBay b (BayCtl.become (.held x))) ((h.flags b).ceaseHeld hf) x _ _
    · simp [-Fin.getElem_fin]
    · simp [-Fin.getElem_fin]

theorem PresenceInv.park (h : PresenceInv s) (hf : s.bays[b].state ≠ .fault) (i : SlotIx) (r : Record) :
    PresenceInv (park i r b s) := by
  refine h.becomes ?_ (park_bay i r b s) ?_ (by rw [park_frame]) (by rw [park_frame]) nofun rfl
  · unfold Machine.park
    exact (((AwayFrom.ceaseHeld.trans (.putSlot _ _)).trans (.modBay _)).trans (.quiet (quiet_raiseAt ..))).trans
      .enterServing
  · unfold Machine.park
    have referring : Flags b .empty (((ceaseHeld b s).putSlot i
      (some (r.park b s.timer.number s.doors[b].figures))).modBay b fun x => { x with ref := some i }) :=
        (h.flags b).ceaseHeld hf
    have entered := (referring.quiet (quiet_raiseAt .parked b (some r.number) (some (.origin r.origin)) _)).enterServing
    simpa using entered

/-- R52: a bay whose conditions have ceased has no flag set. -/
theorem flagAt_ceaseAll (h : Flags b s.bays[b].state s) (k : BayKind) : (ceaseAll b s).flagAt b k = false := by
  show (ceaseIf s.doors[b].doorLong .doorLong b _).flagAt b k = false
  simp only [flagAt_ceaseIf]
  by_cases hf : s.bays[b].state = .fault
  · have held : ceaseHeld b s = s := by unfold ceaseHeld; rw [hf]
    rw [held, h k, hf]
    cases k <;> simp [BayKind.heldBy]
  · rw [h.ceaseHeld hf k]
    cases k <;> simp [BayKind.heldBy]

theorem away_ceaseAll : AwayFrom b s (ceaseAll b s) := by
  unfold ceaseAll
  exact ((((((AwayFrom.ceaseHeld.trans (.ceaseIf _ _)).trans (.ceaseIf _ _)).trans (.ceaseIf _ _)).trans
    (.ceaseIf _ _)).trans (.ceaseIf _ _)).trans (.ceaseIf _ _)).trans (.modCond _)

/-- R10: a departure changes no condition. -/
theorem away_depart : AwayFrom b s (depart b s) := by
  unfold depart; split
  · exact .refl b s
  · exact ((((AwayFrom.modParked _).trans (.quiet (quiet_modFeeder rfl))).trans (.quiet (quiet_setHeat b false _))).trans
      (.modBay _)).trans (.quiet (quiet_raiseAt ..))

theorem depart_state : (depart b s).bays[b].state = s.bays[b].state := by
  unfold depart; split
  · rfl
  · simp

theorem flags_depart {st : BayState} (h : Flags b st s) : Flags b st (depart b s) := by
  refine h.of_eq (fun k => ?_) (by rw [depart_frame]) (by rw [depart_frame])
  unfold depart; split
  · rfl
  · simp [State.flagAt]

/-- R52: a disconnect ends the conditions of its bay. -/
theorem presence_disconnect (h : PresenceInv s) : PresenceInv (disconnect b s) := by
  unfold disconnect; split
  · have flags : ∀ k, (ceaseAll b (depart b s)).flagAt b k = false :=
      flagAt_ceaseAll (by rw [depart_state]; exact flags_depart (h.flags b))
    have conditions : (ceaseAll b (depart b s)).conditions[b] = .none := by simp [ceaseAll]
    generalize hst : (if s.bays[b].state = .disabled then BayState.disabled else .empty) = st
    have plain : st.plain := by rw [← hst]; split <;> trivial
    refine h.of_away ?_ ⟨fun k => ?_, fun _ => conditions, fun _ => ?_⟩
    · exact ((((away_depart.trans away_ceaseAll).trans (.quiet (quiet_modConverter _ _))).trans (.modReader _)).trans
        (.modBay _)).trans (.modDoor _)
    · refine (flags k).trans ?_
      simp only [State.modDoor_bays, State.modBay_bays, State.modDoor_doors, vector_set_same, State.modDoor_conditions]
      show false = k.heldBy st (ceaseAll b (depart b s)).conditions[b] false
      rw [conditions, heldBy_plain plain]
      cases k <;> rfl
    · rw [State.modDoor_doors, vector_set_same]; rfl
  · exact h

/-- R56: a bay becomes IDENTIFYING. -/
theorem PresenceInv.identify (h : PresenceInv s) (hf : Flags b .empty s) : PresenceInv (identify b s) :=
  h.becomes (t := Machine.identify b s) (x := BayCtl.become .identifying s.bays[b]) ((AwayFrom.modBay _).trans (.modReader _))
    (bayBecomes_set rfl rfl) (hf.plain (st' := .identifying) trivial trivial) rfl rfl id rfl

/-- R51: BAY_ENABLE. -/
theorem presence_enable (h : PresenceInv s) : PresenceInv (enable b s) := by
  unfold enable
  cases hb : s.bays[b].state with
  | disabled =>
    have flags : Flags b .empty s := (h.flags b).plain (by rw [hb]; trivial) trivial
    simp only
    split
    · exact h.enterServing flags
    · split
      · exact h.identify flags
      · exact h.becomes (x := BayCtl.become .empty s.bays[b]) (.modBay _) (bayBecomes_set rfl rfl) flags rfl rfl id rfl
  | _ => exact h

/-- R49: BAY_DISABLE. -/
theorem presence_disable (h : PresenceInv s) : PresenceInv (disable b s) := by
  have disabled {t : State} (ht : PresenceInv t) (hf : Flags b .empty t) : PresenceInv (t.modBay b (BayCtl.become .disabled)) :=
    ht.becomes (x := BayCtl.become .disabled t.bays[b]) (.modBay _) (bayBecomes_set rfl rfl)
      (hf.plain (st' := .disabled) trivial trivial) rfl rfl id rfl
  have plainly (hp : s.bays[b].state.plain) : PresenceInv (s.modBay b (BayCtl.become .disabled)) :=
    disabled h ((h.flags b).plain hp trivial)
  have ceased {t : State} (g : AwayFrom b s t) (hb : t.bays = s.bays) (hc : t.conditions = s.conditions)
      (hd : t.doors = s.doors) (hf : Flags b .empty t) : PresenceInv (t.modBay b (BayCtl.become .disabled)) := by
    refine h.becomes (x := BayCtl.become .disabled s.bays[b]) (g.trans (.modBay _)) (bayBecomes_set (by rw [State.modBay_bays, hb]) rfl)
      (hf.plain (st' := .disabled) trivial trivial) (by rw [State.modBay_conditions, hc])
      (by rw [State.modBay_doors, hd]) id rfl
  unfold disable
  cases hb : s.bays[b].state with
  | disabled => exact h
  | empty => exact plainly (by rw [hb]; trivial)
  | identifying => exact plainly (by rw [hb]; trivial)
  | held x =>
    exact ceased .ceaseHeld (ceaseHeld_bays b s) (ceaseHeld_conditions b s) (ceaseHeld_doors b s)
      ((h.flags b).ceaseHeld (by rw [hb]; nofun))
  | serving =>
    exact ((plainly (by rw [hb]; trivial)).quiet (quiet_modConverter _ _)).quiet (quiet_defrostLeavesServing b _)
  | fault => exact ceased (.ceaseAt _) rfl rfl rfl (hb ▸ h.flags b).ceaseOvercurrent

/-- R38: a connect. -/
theorem presence_connect (h : PresenceInv s) : PresenceInv (connect b s) := by
  unfold connect; split
  · exact h
  next hc =>
    have long : s.doors[b].doorLong = false := h.doorLong b (by simpa using hc)
    have seen : PresenceInv ((s.modBay b fun x => { x with connected := true, differing := 0 }).modDoor b
        fun _ => .unwatched) := by
      refine h.of_away ((AwayFrom.modBay _).trans (.modDoor _)) ⟨?_, ?_, fun _ => ?_⟩
      · have flags := h.flags b
        intro k
        refine (flags k).trans ?_
        simp only [State.modDoor_bays, State.modBay_bays, State.modDoor_doors, State.modBay_doors, vector_set_same,
          State.modDoor_conditions, State.modBay_conditions, long]
        rfl
      · simp only [State.modDoor_bays, State.modBay_bays, vector_set_same]; exact h.conditions b
      · rw [State.modDoor_doors, vector_set_same]; rfl
    simp only
    cases hb : s.bays[b].state with
    | empty =>
      refine seen.identify ((seen.flags b).plain ?_ trivial)
      simp only [State.modDoor_bays, State.modBay_bays, vector_set_same, hb]; trivial
    | _ => exact seen

/-- R45: a trip at a bay that is SERVING. -/
theorem presence_trip (h : PresenceInv s) (hb : s.bays[b].state = .serving) : PresenceInv (trip b s) := by
  have flags : Flags b .empty s := (h.flags b).plain (by rw [hb]; trivial) trivial
  have reported : PresenceInv (presentAt .overcurrent b (s.trailerAt b) none (s.modBay b (BayCtl.become .fault))) :=
    h.becomes (x := BayCtl.become .fault s.bays[b]) ((AwayFrom.modBay _).trans (.presentAt _ _ _))
      (bayBecomes_set rfl rfl) (Flags.presentOvercurrent (s := s.modBay b (BayCtl.become .fault)) flags _ _) rfl rfl id rfl
  exact (reported.quiet (quiet_modConverter _ _)).quiet (quiet_defrostLeavesServing b _)

/-- R48: CLEAR_FAULT at a bay in FAULT. -/
theorem presence_clearFault (h : PresenceInv s) (hb : s.bays[b].state = .fault) : PresenceInv (clearFault b s) := by
  have ceased : Flags b .empty (ceaseAt .overcurrent b s) := (hb ▸ h.flags b).ceaseOvercurrent
  exact h.becomes ((AwayFrom.ceaseAt _).trans .enterServing) (enterServing_bay b (ceaseAt .overcurrent b s))
    ceased.enterServing (by rw [clearFault, enterServing_conditions]; rfl)
    (by rw [clearFault, enterServing_doors]; rfl) id rfl

/-! ## Conditions (R94 to R112, R149) -/

/-- A change of the conditions of a bay, or of its DOOR_LONG, that its flags follow. -/
theorem PresenceInv.updates (h : PresenceInv s) {t : State} (g : AwayFrom b s t) (hb : t.bays = s.bays)
    (hf : ∀ k, t.flagAt b k = k.heldBy s.bays[b].state t.conditions[b] t.doors[b].doorLong)
    (hc : s.bays[b].ref = none → t.conditions[b] = .none)
    (hd : s.bays[b].connected = false → t.doors[b].doorLong = false) : PresenceInv t :=
  h.of_away g ⟨by rw [hb]; exact hf, by rw [hb]; exact hc, by rw [hb]; exact hd⟩

/-- `f` sets the condition of kind `k` to `after` and leaves the others. -/
def SetsCondition (k : BayKind) (after : Bool) (f : Conditions → Conditions) : Prop :=
  ∀ (l : BayKind) (st : BayState) (c : Conditions) (long : Bool),
    l.heldBy st (f c) long = if l = k then after else l.heldBy st c long

theorem setsCondition_senderFault (v : Bool) : SetsCondition .senderFault v fun c => { c with senderFault := v } := by
  intro l st c long; cases l <;> rfl
theorem setsCondition_fuelLow (v : Bool) : SetsCondition .fuelLow v fun c => { c with fuelLow := v } := by
  intro l st c long; cases l <;> rfl
theorem setsCondition_fuelDrop (v : Bool) : SetsCondition .fuelDrop v fun c => { c with fuelDrop := v } := by
  intro l st c long; cases l <;> rfl
theorem setsCondition_probeFault (v : Bool) : SetsCondition .probeFault v fun c => { c with probeFault := v } := by
  intro l st c long; cases l <;> rfl

/-- R94, R106: a condition is set and its change of presence reported. -/
theorem PresenceInv.reports (h : PresenceInv s) {k : BayKind} {before after : Bool} {f : Conditions → Conditions}
    (hf : SetsCondition k after f) (hb : s.flagAt b k = before)
    (hc : s.bays[b].ref = none → f s.conditions[b] = .none) (n : Option TrailerNo) (v : NoticeValue) :
    PresenceInv (report before after k b n v (s.modCond b f)) := by
  have bays : (report before after k b n v (s.modCond b f)).bays = s.bays := by cases before <;> cases after <;> rfl
  have doors : (report before after k b n v (s.modCond b f)).doors = s.doors := by cases before <;> cases after <;> rfl
  have conditions : (report before after k b n v (s.modCond b f)).conditions[b] = f s.conditions[b] := by
    have e : (report before after k b n v (s.modCond b f)).conditions = (s.modCond b f).conditions := by
      cases before <;> cases after <;> rfl
    rw [e, State.modCond_conditions, vector_set_same]
  refine h.updates ((AwayFrom.modCond f).trans (.report _ _ _ _ _)) bays (fun l => ?_) ?_ ?_
  · rw [flagAt_report (s := s.modCond b f) hb, conditions, doors, hf, ← h.flags b l]; rfl
  · rw [conditions]; exact hc
  · rw [doors]; exact h.doorLong b

theorem ceaseIf_eq_report (p : Bool) (k : BayKind) (n : Option TrailerNo) (v : NoticeValue) :
    ceaseIf p k b s = report p false k b n v s := by cases p <;> rfl

theorem report_modCond (before after : Bool) (k : BayKind) (n : Option TrailerNo) (v : NoticeValue)
    (f : Conditions → Conditions) :
    (report before after k b n v s).modCond b f = report before after k b n v (s.modCond b f) := by
  cases before <;> cases after <;> rfl

theorem ceaseIf_modCond (p : Bool) (k : BayKind) (f : Conditions → Conditions) :
    (ceaseIf p k b s).modCond b f = ceaseIf p k b (s.modCond b f) := by cases p <;> rfl

theorem State.modCond_modCond (f g : Conditions → Conditions) :
    (s.modCond b f).modCond b g = s.modCond b fun c => g (f c) := by
  unfold State.modCond; simp

/-- A condition is withdrawn and its end reported. -/
theorem PresenceInv.ceases (h : PresenceInv s) {k : BayKind} {p : Bool} {f : Conditions → Conditions}
    (hf : SetsCondition k false f) (hb : s.flagAt b k = p) (hc : s.bays[b].ref = none → f s.conditions[b] = .none) :
    PresenceInv ((ceaseIf p k b s).modCond b f) := by
  rw [ceaseIf_modCond, ceaseIf_eq_report _ _ none (.rounds 0)]
  exact h.reports hf hb hc _ _

theorem presence_endFuelDrop (h : PresenceInv s) : PresenceInv
    ((ceaseIf s.conditions[b].fuelDrop .fuelDrop b s).modCond b fun c => { c with fuelDrop := false }) :=
  h.ceases (setsCondition_fuelDrop false) (h.flags b .fuelDrop) fun hr => by rw [h.conditions b hr]; rfl

/-- R107: FUEL_LOW ends, then FUEL_DROP. -/
theorem presence_endFuelJudgements (h : PresenceInv s) : PresenceInv (endFuelJudgements b s) := by
  have low := h.ceases (b := b) (setsCondition_fuelLow false) (h.flags b .fuelLow) fun hr => by rw [h.conditions b hr]; rfl
  have both := presence_endFuelDrop (b := b) low
  simp only [ceaseIf_modCond, State.modCond_modCond, State.modCond_conditions, ceaseIf_conditions, vector_set_same] at both
  show PresenceInv ((ceaseIf s.conditions[b].fuelDrop .fuelDrop b (ceaseIf s.conditions[b].fuelLow .fuelLow b s)).modCond b
    fun x => { x with fuelLow := false, fuelDrop := false })
  rw [ceaseIf_modCond, ceaseIf_modCond]
  exact both

/-- R95: FUEL_LOW and FUEL_DROP are judged at a bay that refers to a record. -/
theorem presence_filteredUpdate (h : PresenceInv s) (hr : s.bays[b].ref ≠ none) (r : Record) (l : Int) :
    PresenceInv (filteredUpdate b r l s) := by
  unfold filteredUpdate
  extract_lets f base low drop written judged
  have quiet : Quiet s written := quiet_modParked s fun _ => rfl
  have hw : PresenceInv written := h.quiet quiet
  have ref : written.bays[b].ref ≠ none := by rw [quiet.ref]; exact hr
  have conditions : written.conditions = s.conditions := quiet.conditions
  have lowered := hw.reports (b := b) (setsCondition_fuelLow low) (hw.flags b .fuelLow) (fun e => absurd e ref)
    (some r.number) (.level f)
  have lowRef : (report written.conditions[b].fuelLow low .fuelLow b (some r.number) (.level f)
      (written.modCond b fun c => { c with fuelLow := low })).bays[b].ref ≠ none := by
    rw [(sameRegistry_report _ _ _ b _ _ _).ref]; exact ref
  have dropped := lowered.reports (b := b) (setsCondition_fuelDrop drop) (lowered.flags b .fuelDrop) (fun e => absurd e lowRef)
    (some r.number) (.level (base - f))
  rw [report_modCond, State.modCond_modCond] at dropped
  have fuelDrop : (report s.conditions[b].fuelLow low .fuelLow b (some r.number) (.level f)
      (written.modCond b fun c => { c with fuelLow := low })).conditions[b].fuelDrop = s.conditions[b].fuelDrop := by
    have e (p q : Bool) (t : State) : (report p q .fuelLow b (some r.number) (.level f) t).conditions = t.conditions := by
      cases p <;> cases q <;> rfl
    rw [e, State.modCond_conditions, vector_set_same, conditions]
  simp only [BayKind.heldBy, conditions, fuelDrop] at dropped
  exact dropped

theorem ref_of_recordAt {r : Record} (h : s.recordAt b = some r) : s.bays[b].ref ≠ none := by
  obtain ⟨i, hi, -⟩ := State.recordAt_eq_some.1 h
  rw [hi]; nofun

theorem presence_fuelResult (h : PresenceInv s) (n : Nat) : PresenceInv (fuelResult b n s) := by
  unfold fuelResult
  cases hr : s.recordAt b with
  | none => exact h
  | some r =>
    simp only
    generalize s.readCurve .fuel r.settings.fuelCurve n = level
    have sampled : Quiet s (s.modParked b (Record.sampled n s.timer.number level)) := quiet_modParked s fun _ => rfl
    split
    · have counted := sampled.trans (quiet_modParked (b := b)
        (f := fun x => { x with fuel := { x.fuel with errorRun := 0 } }) _ fun _ => rfl)
      generalize ((s.modParked b (Record.sampled n s.timer.number level)).modParked b
        fun x => { x with fuel := { x.fuel with errorRun := 0 } }) = u at counted
      have hu := h.quiet counted
      have ref : u.bays[b].ref ≠ none := by rw [counted.ref]; exact ref_of_recordAt hr
      have cleared := hu.ceases (b := b) (setsCondition_senderFault false) (hu.flags b .senderFault) fun e => absurd e ref
      simp only [BayKind.heldBy, counted.conditions] at cleared
      cases level with
      | none => exact cleared
      | some l => exact presence_filteredUpdate cleared (by rw [State.modCond_bays, ceaseIf_bays]; exact ref) r l
    · exact h.quiet sampled

theorem presence_fuelError (h : PresenceInv s) (e : ErrorKind) : PresenceInv (fuelError b e s) := by
  unfold fuelError
  cases hr : s.recordAt b with
  | none => exact h
  | some r =>
    simp only
    generalize bump Config.errorRunMax r.fuel.errorRun = run
    have counted : Quiet s (s.modParked b fun x => { x with fuel := { x.fuel with errorRun := run, lastError := e } }) :=
      quiet_modParked s fun _ => rfl
    split
    · exact (h.quiet counted).reports (setsCondition_senderFault true) ((counted.flags _).trans (h.flags b .senderFault))
        (fun hn => absurd (by rwa [counted.ref] at hn) (ref_of_recordAt hr)) _ _
    · exact h.quiet counted

theorem presence_probeError (h : PresenceInv s) (e : ErrorKind) : PresenceInv (probeError b e s) := by
  unfold probeError
  cases hr : s.recordAt b with
  | none => exact h
  | some r =>
    simp only
    generalize bump Config.errorRunMax r.probe.errorRun = run
    have counted : Quiet s (s.modParked b fun x => { x with probe := { x.probe with errorRun := run, lastError := e } }) :=
      quiet_modParked s fun _ => rfl
    split
    · exact (h.quiet counted).reports (setsCondition_probeFault true) ((counted.flags _).trans (h.flags b .probeFault))
        (fun hn => absurd (by rwa [counted.ref] at hn) (ref_of_recordAt hr)) _ _
    · exact h.quiet counted

theorem presence_probeResult (h : PresenceInv s) (n : Nat) : PresenceInv (probeResult b n s) := by
  unfold probeResult
  cases hr : s.recordAt b with
  | none => exact h
  | some r =>
    simp only
    generalize s.readCurve .probe r.settings.probeCurve n = coil
    have written : Quiet s (s.modParked b fun x => { x with
        probe := { x.probe with lastResistance := some n, errorRun := 0, coil := coil } }) :=
      quiet_modParked s fun _ => rfl
    have cleared := (h.quiet written).ceases (setsCondition_probeFault false)
      ((written.flags _).trans (h.flags b .probeFault))
      fun hn => absurd (by rwa [written.ref] at hn) (ref_of_recordAt hr)
    split
    · split
      · exact cleared.quiet (quiet_endHeating b r _)
      · exact cleared
    · exact cleared

/-- R73: a reading handed on. -/
theorem presence_deliverReading (h : PresenceInv s) (ch : Channel) (x : Reading) : PresenceInv (deliverReading ch x s) := by
  unfold deliverReading; split
  · exact presence_fuelResult h _
  · exact presence_fuelError h _
  · exact presence_probeResult h _
  · exact presence_probeError h _

theorem presence_endDoorLong (h : PresenceInv s) : PresenceInv (endDoorLong b s) := by
  refine h.updates (b := b) ((AwayFrom.ceaseIf _ _).trans (.modDoor _)) (by simp [endDoorLong]) (fun k => ?_) (fun hr => ?_) ?_
  · show (ceaseIf _ .doorLong b s).flagAt b k = _
    simp only [flagAt_ceaseIf, h.flags b k]
    simp only [endDoorLong, State.modDoor_conditions, State.modDoor_doors, ceaseIf_conditions, ceaseIf_doors, vector_set_same]
    cases k <;> simp [BayKind.heldBy]
  · simp only [endDoorLong, State.modDoor_conditions, ceaseIf_conditions]; exact h.conditions b hr
  · intro _; simp [endDoorLong]

/-- R149: DOOR_LONG is judged at a watched bay. -/
theorem presence_judgeDoorLong (h : PresenceInv s) (hc : s.bays[b].connected = true) : PresenceInv (judgeDoorLong b s) := by
  simp only [judgeDoorLong]
  generalize (s.doors[b].figures.state == .opened && decide (doorLimit s b ≤ s.doors[b].figures.openRounds)) = long
  generalize hv : (some (NoticeValue.rounds s.doors[b].figures.openRounds)) = v
  have flags := h.flags b
  have unwatched (p : Prop) : s.bays[b].connected = false → p := fun e => by rw [hc] at e; cases e
  cases hd : s.doors[b].doorLong <;> cases long
  · exact h
  · refine h.updates (b := b) ((AwayFrom.modDoor _).trans (.presentAt _ _ _)) rfl (fun k => ?_) (h.conditions b) (unwatched _)
    rw [flagAt_presentAt, presentAt_doors, presentAt_conditions, State.modDoor_doors, State.modDoor_conditions, vector_set_same]
    show (if k = .doorLong then true else s.flagAt b k) = _
    rw [flags k]
    cases k <;> rfl
  · refine h.updates (b := b) ((AwayFrom.modDoor _).trans (.ceaseAt _)) rfl (fun k => ?_) (h.conditions b) (unwatched _)
    rw [flagAt_ceaseAt, ceaseAt_doors, ceaseAt_conditions, State.modDoor_doors, State.modDoor_conditions, vector_set_same]
    show (if k = .doorLong then false else s.flagAt b k) = _
    rw [flags k]
    cases k <;> rfl
  · exact h

end

/-! ## FEEDER_SAG (R131) -/

/-- A verdict latched with the flag of FEEDER_SAG brought to it. -/
theorem PresenceInv.latches {s t u : State} (h : PresenceInv s) (g : Quiet s t) (hb : u.bays = t.bays)
    (hc : u.conditions = t.conditions) (hd : u.doors = t.doors)
    (hf : ∀ k b, u.notices.flag (.bay k b) = t.notices.flag (.bay k b))
    (hs : u.notices.flag .feederSag = (u.feeder.verdict == .sag)) : PresenceInv u := by
  obtain ⟨flags, -, conditions, doorLong⟩ := h.quiet g
  refine ⟨fun k b => (hf k b).trans ((flags k b).trans ?_), hs, fun b => ?_, fun b => ?_⟩
  · rw [holds_eq, holds_eq, hb, hc, hd]
  · rw [hb, hc]; exact conditions b
  · rw [hb, hd]; exact doorLong b

theorem sagged_verdict (f : Feeder) : f.sagged.verdict = f.verdict := by unfold Feeder.sagged; split <;> rfl
theorem restored_verdict (f : Feeder) : f.restored.verdict = f.verdict := by
  unfold Feeder.restored; split
  · rfl
  · split <;> rfl

/-- R131 to R133: the check point. -/
theorem presence_checkPoint {s : State} (h : PresenceInv s) : PresenceInv (checkPoint s) := by
  unfold checkPoint; split
  · unfold sagVerdict
    extract_lets shed
    have hs : Quiet s shed := by
      simp only [shed]; split
      · exact (quiet_modFeeder (sagged_verdict _)).trans (quiet_heatingToWaiting _ _)
      · exact quiet_modFeeder (sagged_verdict _)
    split
    · exact h.latches hs rfl rfl rfl (fun k b => by simp) (by simp [Feeder.latch])
    next hv =>
      refine h.latches hs rfl rfl rfl (fun k b => rfl) ?_
      show shed.notices.flag .feederSag = true
      rw [hs.flags, show s.notices.flag .feederSag = _ from h.2.1, hv]; rfl
  · unfold clearVerdict
    extract_lets kept
    have hk : Quiet s kept := quiet_modFeeder (restored_verdict _)
    split
    · exact h.latches hk rfl rfl rfl (fun k b => by simp) (by simp [Feeder.latch])
    next hv =>
      refine h.latches hk rfl rfl rfl (fun k b => rfl) ?_
      show kept.notices.flag .feederSag = false
      rw [hk.flags, show s.notices.flag .feederSag = _ from h.2.1, hv]; rfl

/-! ## The present flags are kept by all work -/

/-- The registry is consistent, and the present flags agree with their sources. -/
def PresentRegistry (s : State) : Prop := RegistryInv s ∧ PresenceInv s

theorem Settles.presentRegistry {b : Bay} {s : State} (h : Settles RegistryInv b s) (g : PresenceInv s)
    (hf : s.bays[b].state ≠ .fault) : Settles PresentRegistry b s :=
  ⟨fun i r hr => ⟨h.park i r hr, g.park hf i r⟩, fun x hx => ⟨h.hold x hx, g.hold hf x⟩⟩

theorem presentRegistry_keptByWork : KeptByWork PresentRegistry where
  quiet s t g hs := ⟨registry_keptByWork.quiet s t g hs.1, hs.2.quiet g⟩
  reset cause s := ⟨registry_keptByWork.reset cause s, presenceInv_reset.quiet (.of_eq rfl rfl rfl rfl rfl rfl fun _ => rfl)⟩
  book s i n x hs hn hm hi := ⟨registry_keptByWork.book s i n x hs.1 hn hm hi, hs.2⟩
  retire s i r hs hi hp := ⟨registry_keptByWork.retire s i r hs.1 hi hp, hs.2⟩
  heldTag s b h hs := registry_keptByWork.heldTag s b h hs.1
  held s b h hs hb := (registry_keptByWork.held s b h hs.1 hb).presentRegistry hs.2 (by rw [hb]; nofun)
  head s b rest now hs hq :=
    have hb : s.bays[b].state = .identifying := (hs.1.queued b).1 (by rw [hq]; exact List.mem_cons_self)
    (registry_keptByWork.head s b rest now hs.1 hq).presentRegistry hs.2 (by rw [State.modReader_bays, hb]; nofun)
  enable b s hs := ⟨registry_keptByWork.enable b s hs.1, presence_enable hs.2⟩
  disable b s hs := ⟨registry_keptByWork.disable b s hs.1, presence_disable hs.2⟩
  clearFault s b hs hb := ⟨registry_keptByWork.clearFault s b hs.1 hb, presence_clearFault hs.2 hb⟩
  connect b s hs := ⟨registry_keptByWork.connect b s hs.1, presence_connect hs.2⟩
  disconnect b s hs := ⟨registry_keptByWork.disconnect b s hs.1, presence_disconnect hs.2⟩
  trip s b hs hb := ⟨registry_keptByWork.trip s b hs.1 hb, presence_trip hs.2 hb⟩
  deliverReading ch x s hs := ⟨registry_keptByWork.deliverReading ch x s hs.1, presence_deliverReading hs.2 ch x⟩
  endFuelJudgements b s hs := ⟨registry_keptByWork.endFuelJudgements b s hs.1, presence_endFuelJudgements hs.2⟩
  endFuelDrop b s hs := ⟨registry_keptByWork.endFuelDrop b s hs.1, presence_endFuelDrop hs.2⟩
  judgeDoorLong s b hs hc := ⟨registry_keptByWork.judgeDoorLong s b hs.1 hc, presence_judgeDoorLong hs.2 hc⟩
  endDoorLong b s hs := ⟨registry_keptByWork.endDoorLong b s hs.1, presence_endDoorLong hs.2⟩
  checkPoint s hs := ⟨registry_keptByWork.checkPoint s hs.1, presence_checkPoint hs.2⟩

/-- Settles O59: together with the registry, the agreement of flags and sources is kept by quiet work, and by each
operation that is not. -/
theorem stepKeepsPresenceWithSources : Obligations.StepKeepsPresenceWithSources :=
  fun _ _ hr hs ht => (presentRegistry_keptByWork.step ⟨hr, hs⟩ ht).2

end Sys2Proof.Machine

namespace Sys2Proof.Machine

/-! # The commands on records (O12 to O15, O18, O20) and what holding a bay does (O32) -/

/-! ## How a command is answered -/

/-- R171: a host command in a ready state is answered as its request is carried out. -/
theorem exec_answers {c : Instr} {r : Request} {s t : State} {a : Answer} (hr : requestOf c = some r) (h : s.ready)
    (he : runRequest r s = (t, a)) : exec c s = .next (t.answering r a) := by rw [exec_of_ready hr h, he]

section
variable {s : State} {n : TrailerNo} {work : SlotIx → Record → State × Answer}

theorem onNamed_zero (work : SlotIx → Record → State × Answer) : onNamed 0 work s = (s, refusal .badValue) := rfl

theorem onNamed_unknown (hn : n ≠ 0) (h : s.slotOf n = none) : onNamed n work s = (s, refusal .notFound) := by
  rw [onNamed, if_neg hn, named_eq_none.2 h]

theorem onNamed_known (hn : n ≠ 0) {i : SlotIx} {r : Record} (h : s.slotOf n = some i) (hr : s.table[i] = some r) :
    onNamed n work s = work i r := by
  rw [onNamed, if_neg hn, named_eq_some.2 ⟨h, hr⟩]

end

/-! ## Settings as written (R3) -/

theorem curveOf_eq (v : Byte) : curveOf v = if v = 0xFF then none else some (Fin.ofNat 8 (min 7 v.toNat)) := by
  unfold curveOf
  split
  · rfl
  · exact congrArg some (Fin.ext (Nat.mod_eq_of_lt (by omega)).symm)

theorem giveNat_eq (given : Bool) (lo hi v before : Nat) :
    giveNat given lo hi v before = if given then min hi (max lo v) else before := rfl

/-- Table 57: the codes that name no clock mode. -/
theorem clockModeOf_isNone (v : Byte) : (clockModeOf v).isNone = decide (v ≠ 0 ∧ v ≠ 1) := by
  unfold clockModeOf
  split
  next h => rw [show v = 0 from BitVec.eq_of_toNat_eq h]; rfl
  next h => rw [show v = 1 from BitVec.eq_of_toNat_eq h]; rfl
  next h0 h1 =>
    have zero : v ≠ 0 := fun e => h0 (by rw [e]; rfl)
    have one : v ≠ 1 := fun e => h1 (by rw [e]; rfl)
    exact (decide_eq_true ⟨zero, one⟩).symm

/-- Settles O12: each setting by its own clause; the curve numbers and the clock mode by their codes. -/
theorem givenSettingsAreStoredClamped : Obligations.GivenSettingsAreStoredClamped := by
  intro a x
  refine ⟨fun _ => rfl, ?_, ?_, rfl, rfl, ?_, ?_, rfl, rfl, ?_, ?_, rfl, rfl, rfl, ?_, rfl⟩
  · simp only [applySettings, SettingsArg.gives, curveOf_eq]
  · simp only [applySettings, SettingsArg.gives, curveOf_eq]
  · intro omitted
    simp only [applySettings, SettingsArg.gives, omitted, Bool.false_eq_true, if_false]
  · intro given
    exact ⟨fun wall => by simp [applySettings, SettingsArg.gives, given, wall, clockModeOf],
      fun run => by simp [applySettings, SettingsArg.gives, given, run, clockModeOf]⟩
  · simp [applySettings, SettingsArg.gives, giveNat_eq]
  · simp [applySettings, SettingsArg.gives, giveNat_eq]
  · rw [settingsMalformed, clockModeOf_isNone]; rfl

/-! ## BOOK, AMEND, RETIRE, REBASE -/

theorem book_malformed {n : TrailerNo} {a : SettingsArg} {s : State} (h : n = 0 ∨ settingsMalformed a = true) :
    book n a s = (s, refusal .badValue) := if_pos h

section
variable {s : State} {n : TrailerNo} {a : SettingsArg}

theorem operands_good (hn : n ≠ 0) (ha : settingsMalformed a = false) : ¬(n = 0 ∨ settingsMalformed a = true) :=
  fun h => h.elim hn fun e => by rw [ha] at e; cases e

/-- R17: BOOK of a known number. -/
theorem book_known (hn : n ≠ 0) (ha : settingsMalformed a = false) {i : SlotIx} {r : Record} (hi : s.slotOf n = some i)
    (hr : s.table[i] = some r) : book n a s = (s, refusal .duplicate) := by
  rw [book, if_neg (operands_good hn ha), named_eq_some.2 ⟨hi, hr⟩]; rfl

/-- R17: BOOK with no slot FREE. -/
theorem book_full (hn : n ≠ 0) (ha : settingsMalformed a = false) (unknown : s.slotOf n = none)
    (full : s.freeSlot = none) : book n a s = (s, refusal .full) := by
  rw [book, if_neg (operands_good hn ha), named_eq_none.2 unknown, full]; rfl

/-- R17: BOOK of a new number in a FREE slot. -/
theorem book_new (hn : n ≠ 0) (ha : settingsMalformed a = false) {i : SlotIx} (unknown : s.slotOf n = none)
    (free : s.freeSlot = some i) : book n a s =
      (s.putSlot i (some (Record.create n .booked (applySettings a .default))),
        okay (wordBytes n ++ (applySettings a .default).block)) := by
  rw [book, if_neg (operands_good hn ha), named_eq_none.2 unknown, free]; rfl

end

/-- Settles O13: the index lemmas of R1, and BOOK by its checks. -/
theorem bookCreatesABookedRecord : Obligations.BookCreatesABookedRecord := by
  refine ⟨fun s n => ⟨slotOf_eq_none, fun i => slotOf_some, freeSlot_eq_none, fun i => freeSlot_some⟩,
    fun s n a ready => ⟨fun bad => exec_answers rfl ready (book_malformed bad), fun hn ha => ⟨?_, ?_, ?_⟩⟩⟩
  · exact fun i r hi hr => exec_answers rfl ready (book_known hn ha hi hr)
  · exact fun unknown full => exec_answers rfl ready (book_full hn ha unknown full)
  · exact fun i unknown free => exec_answers rfl ready (book_new hn ha unknown free)

theorem Record.restartFuel_unless (p : Prop) [Decidable p] (r : Record) : (if p then r else r.restartFuel) =
    { r with fuel := if p then r.fuel else { r.fuel with filtered := none, baseline := none } } := by split <;> rfl

theorem Record.restartProbe_unless (p : Prop) [Decidable p] (r : Record) : (if p then r else r.restartProbe) =
    { r with probe := if p then r.probe else { r.probe with coil := none } } := by split <;> rfl

theorem Record.modDefrost_if (p : Prop) [Decidable p] (f : DefrostFigures → DefrostFigures) (r : Record) :
    (if p then r.modDefrost f else r) = { r with defrost := if p then f r.defrost else r.defrost } := by split <;> rfl

/-- R19, Table 11: the record after AMEND, field by field. -/
theorem Record.amend_eq (x : Settings) (r : Record) : r.amend x = { r with
    settings := x
    fuel := if x.fuelCurve = r.settings.fuelCurve then r.fuel else { r.fuel with filtered := none, baseline := none }
    probe := if x.probeCurve = r.settings.probeCurve then r.probe else { r.probe with coil := none }
    defrost := if r.place.bay?.isSome ∧ x.interval ≠ r.settings.interval then
        { r.defrost with intervalCount := min r.defrost.intervalCount (x.interval * 60) }
      else r.defrost } := by
  simp only [Record.amend, restartFuel_unless, restartProbe_unless, modDefrost_if, eq_comm (a := r.settings.fuelCurve),
    eq_comm (a := r.settings.probeCurve), ne_comm (a := r.settings.interval), Config.intervalUnit]

section
variable {s : State} {n : TrailerNo} {a : SettingsArg} {i : SlotIx} {r : Record}

/-- R18: AMEND of a record that is not PARKED, or with its fuel curve kept. -/
theorem amend_kept (hn : n ≠ 0) (ha : settingsMalformed a = false) (hi : s.slotOf n = some i) (hr : s.table[i] = some r)
    (h : r.place.bay? = none ∨ (applySettings a r.settings).fuelCurve = r.settings.fuelCurve) :
    amend n a s = (s.putSlot i (some (r.amend (applySettings a r.settings))),
      okay (wordBytes n ++ (applySettings a r.settings).block)) := by
  rw [amend, if_neg (by simp [ha]), onNamed_known hn hi hr]
  rcases h with away | same
  · simp only [away]
  · simp only [same, if_true]
    cases r.place.bay? <;> rfl

/-- R19: AMEND of a PARKED record's fuel curve. -/
theorem amend_changed (hn : n ≠ 0) (ha : settingsMalformed a = false) (hi : s.slotOf n = some i) (hr : s.table[i] = some r)
    {b : Bay} (parked : r.place.bay? = some b) (h : (applySettings a r.settings).fuelCurve ≠ r.settings.fuelCurve) :
    amend n a s = (endFuelJudgements b (s.putSlot i (some (r.amend (applySettings a r.settings)))),
      okay (wordBytes n ++ (applySettings a r.settings).block)) := by
  rw [amend, if_neg (by simp [ha]), onNamed_known hn hi hr]
  simp only [parked, h.symm, if_false]

end

/-- Settles O14: AMEND by its checks; a changed fuel curve ends the judgements at the bay of a PARKED record. -/
theorem amendStoresAndRestarts : Obligations.AmendStoresAndRestarts := by
  refine fun s n a ready => ⟨fun bad => exec_answers rfl ready ?_, fun hn ha unknown => exec_answers rfl ready ?_, ?_⟩
  · show amend n a s = _
    by_cases malformed : settingsMalformed a = true
    · exact if_pos malformed
    · rw [amend, if_neg malformed, bad.resolve_right malformed, onNamed_zero]
  · show amend n a s = _
    rw [amend, if_neg (by simp [ha]), onNamed_unknown hn unknown]
  · intro i r hn ha hi hr x amended stored answer
    have restarted : r.amend x = amended := Record.amend_eq x r
    refine ⟨fun kept => exec_answers rfl ready ((amend_kept hn ha hi hr kept).trans ?_), fun b parked changed =>
      exec_answers rfl ready ((amend_changed hn ha hi hr parked changed).trans ?_)⟩
    · show (s.putSlot i (some (r.amend x)), answer) = (stored, answer)
      rw [restarted]
    · show (endFuelJudgements b (s.putSlot i (some (r.amend x))), answer) = _
      rw [restarted]; rfl

/-- R11: RETIRE of a PARKED record. -/
theorem retire_parked {s : State} {n : TrailerNo} {i : SlotIx} {r : Record} (hn : n ≠ 0) (hi : s.slotOf n = some i)
    (hr : s.table[i] = some r) (h : r.place.bay?.isSome = true) : retire n s = (s, refusal .inUse) := by
  rw [retire, onNamed_known hn hi hr]
  cases hp : r.place with
  | parked b since => rfl
  | booked => rw [hp] at h; cases h
  | departed b since left => rw [hp] at h; cases h

/-- R11: RETIRE of a record that is not PARKED. -/
theorem retire_away {s : State} {n : TrailerNo} {i : SlotIx} {r : Record} (hn : n ≠ 0) (hi : s.slotOf n = some i)
    (hr : s.table[i] = some r) (h : r.place.bay? = none) : retire n s = (s.putSlot i none, okay []) := by
  rw [retire, onNamed_known hn hi hr]
  cases hp : r.place with
  | parked b since => rw [hp] at h; cases h
  | booked => rfl
  | departed b since left => rfl

/-- Settles O15: RETIRE by the place of the record. -/
theorem retireFreesTheSlot : Obligations.RetireFreesTheSlot := by
  refine fun s n ready => ⟨?_, fun hn unknown => exec_answers rfl ready (onNamed_unknown hn unknown), fun i r hn hi hr =>
    ⟨fun parked => exec_answers rfl ready (retire_parked hn hi hr parked),
      fun away => exec_answers rfl ready (retire_away hn hi hr away)⟩⟩
  rintro rfl
  exact exec_answers rfl ready rfl

/-- Settles O20: REBASE by the filtered level, the baseline and the place of the record. -/
theorem rebaseSetsBaselineToLevel : Obligations.RebaseSetsBaselineToLevel := by
  refine fun s n ready => ⟨?_, fun hn unknown => exec_answers rfl ready (onNamed_unknown hn unknown), ?_⟩
  · rintro rfl
    exact exec_answers rfl ready rfl
  · intro i r hn hi hr
    refine ⟨fun absent => exec_answers rfl ready ((onNamed_known hn hi hr).trans ?_), fun f v filtered baseline => ⟨fun away =>
      exec_answers rfl ready ((onNamed_known hn hi hr).trans ?_), fun b parked =>
      exec_answers rfl ready ((onNamed_known hn hi hr).trans ?_)⟩⟩
    · rcases absent with noLevel | noBaseline
      · simp only [noLevel]
      · simp only [noBaseline]
        cases r.fuel.filtered <;> rfl
    · simp only [filtered, baseline, away]
    · simp only [filtered, baseline, parked]

/-! ## ASSIGN (R16) -/

theorem bayOf_eq {c : Byte} {b : Bay} (h : c.toNat = b.val) : bayOf c = some b := by
  have lt : c.toNat < 16 := h ▸ b.isLt
  simp only [bayOf, lt, dite_true]
  exact congrArg some (Fin.ext h)

theorem bayOf_eq_none {c : Byte} (h : 16 ≤ c.toNat) : bayOf c = none := by
  simp [bayOf, Nat.not_lt.2 h]

theorem BayState.assignable_iff {x : BayState} :
    x.assignable = true ↔ x = .held .tagFail ∨ ∃ n, x = .held (.conflict n) := by
  cases x with
  | held h => cases h <;> simp [assignable]
  | _ => simp [assignable]

/-- R16: ASSIGN at a bay for a number other than 0. -/
theorem runRequest_assign {c : Byte} {b : Bay} {n : TrailerNo} (s : State) (hc : c.toNat = b.val) (hn : n ≠ 0) :
    runRequest (.assign c n) s = assignAt b n s := by
  show onBay c _ s = _
  rw [onBay, bayOf_eq hc]
  exact if_neg hn

/-- Settles O18: ASSIGN by its checks in order. -/
theorem assignParksTheNamedTrailer : Obligations.AssignParksTheNamedTrailer := by
  intro s c n ready created
  refine ⟨rfl, fun bad => exec_answers rfl ready ?_, fun b hc hn => ?_⟩
  · show onBay c _ s = _
    cases hb : bayOf c with
    | none => rw [onBay, hb]
    | some b =>
      have zero : n = 0 := bad.resolve_left fun h => by rw [bayOf_eq_none h] at hb; cases hb
      rw [onBay, hb]
      exact if_pos zero
  · have run := runRequest_assign (s := s) hc hn
    refine ⟨fun noFail noConflict => exec_answers rfl ready (run.trans ?_), fun held => ?_⟩
    · exact if_neg fun h => (BayState.assignable_iff.1 h).elim noFail fun ⟨m, hm⟩ => noConflict m hm
    · have settled := run.trans (if_pos (BayState.assignable_iff.2 held))
      refine ⟨fun i r hi hr parked => ?_, fun i r hi hr away => ?_, fun i unknown free => ?_, fun unknown full => ?_⟩
      all_goals refine exec_answers rfl ready (settled.trans ?_)
      · rw [named_eq_some.2 ⟨hi, hr⟩]; exact if_pos parked
      · rw [named_eq_some.2 ⟨hi, hr⟩]; exact if_neg (by simp [away])
      · rw [named_eq_none.2 unknown, free]; rfl
      · rw [named_eq_none.2 unknown, full]

/-! ## Holding a bay and its retry (R13 to R15) -/

section
variable {b : Bay} {n : TrailerNo} {s : State}

/-- R12: the match of a number whose record is PARKED. -/
theorem matchNumber_parked {i : SlotIx} {r : Record} (hi : s.slotOf n = some i) (hr : s.table[i] = some r)
    (h : r.place.bay?.isSome = true) : matchNumber b n s = hold b (.conflict n) s := by
  cases hp : r.place with
  | parked c since => simp only [matchNumber, hi, hr, hp]
  | booked => rw [hp] at h; cases h
  | departed c since left => rw [hp] at h; cases h

/-- R12: the match of a number whose record is not PARKED. -/
theorem matchNumber_known {i : SlotIx} {r : Record} (hi : s.slotOf n = some i) (hr : s.table[i] = some r)
    (h : r.place.bay? = none) : matchNumber b n s = park i r b s := by
  cases hp : r.place with
  | parked c since => rw [hp] at h; cases h
  | booked => simp only [matchNumber, hi, hr, hp]
  | departed c since left => simp only [matchNumber, hi, hr, hp]

/-- R12: the match of an unknown number. -/
theorem matchNumber_created {i : SlotIx} (hn : s.slotOf n = none) (hi : s.freeSlot = some i) :
    matchNumber b n s = park i (Record.create n .unbooked .default) b s := by
  simp only [matchNumber, hn, hi]

/-- R12: the match of an unknown number with no slot FREE. -/
theorem matchNumber_full (hn : s.slotOf n = none) (hi : s.freeSlot = none) :
    matchNumber b n s = hold b (.tableFull n) s := by
  simp only [matchNumber, hn, hi]

theorem hold_same {h : Held} (hb : s.bays[b].state = .held h) : hold b h s = s := by rw [hold, if_pos hb]

theorem retry_tableFull (hb : s.bays[b].state = .held (.tableFull n)) : retry b s = matchNumber b n s := by
  rw [retry, hb]

end

/-- Settles O32: HELD once, a bay stays as it is; the retry is the match of its tag. -/
theorem holdingAndItsRetry : Obligations.HoldingAndItsRetry := by
  refine ⟨fun s b h => ⟨hold_same, fun hb => ?_⟩, fun s b => ⟨fun h => ?_, fun n hb => ?_⟩⟩
  · rw [hold, if_neg hb]; rfl
  · unfold retry; split
    next n hb => exact absurd hb (h n)
    all_goals rfl
  · rw [retry_tableFull hb]
    exact ⟨fun unknown full => (matchNumber_full unknown full).trans (hold_same hb),
      fun i => matchNumber_created, fun i r => matchNumber_known, fun i r => matchNumber_parked⟩

end Sys2Proof.Machine

namespace Sys2Proof.Machine

/-! # Parking, connecting and disconnecting (O19, O25) -/

/-! ## Entering SERVING and parking (R8, R41) -/

theorem enterServing_clear {b : Bay} {s : State} (h : s.doors[b].ovc = .clear) : enterServing b s =
    (s.modBay b (BayCtl.serve s.powerGoodMs)).modConverter (Converter.bayEnters s.timer.number b) := by
  rw [enterServing, h]

theorem enterServing_tripped {b : Bay} {s : State} (h : s.doors[b].ovc = .tripped) : enterServing b s =
    presentAt .overcurrent b (s.trailerAt b) none (s.modBay b (BayCtl.become .fault)) := by
  rw [enterServing, h]

/-- R8: the state in which a record stands in its slot with the bay referring to it, and PARKED has been raised. -/
def parking (i : SlotIx) (r : Record) (b : Bay) (s : State) : State :=
  raiseAt .parked b (some r.number) (some (.origin r.origin))
    (((ceaseHeld b s).putSlot i (some (r.park b s.timer.number s.doors[b].figures))).modBay b
      fun x => { x with ref := some i })

theorem park_eq (i : SlotIx) (r : Record) (b : Bay) (s : State) :
    park i r b s = enterServing b (parking i r b s) := rfl

section
variable (i : SlotIx) (r : Record) (b : Bay) (s : State)

theorem parking_bays : (parking i r b s).bays = s.bays.set b.val { s.bays[b] with ref := some i } := by simp [parking]
theorem parking_doors : (parking i r b s).doors = s.doors := by simp [parking]
theorem parking_converter : (parking i r b s).converter = s.converter := by simp [parking]
theorem parking_timer : (parking i r b s).timer = s.timer := by simp [parking]
theorem parking_powerGoodMs : (parking i r b s).powerGoodMs = s.powerGoodMs := by simp [parking]
theorem parking_notices : (parking i r b s).notices =
    (raiseAt .parked b (some r.number) (some (.origin r.origin)) (ceaseHeld b s)).notices := rfl

/-- R8: the bay refers to the record parked there. -/
theorem parking_trailerAt : (parking i r b s).trailerAt b = some r.number := by
  have parked : (parking i r b s).recordAt b = some (r.park b s.timer.number s.doors[b].figures) := by
    refine State.recordAt_eq_some.2 ⟨i, ?_, ?_⟩
    · rw [parking_bays, vector_set_same]
    · simp only [parking, raiseAt_table, State.modBay_table, State.putSlot, vector_set_same]
  rw [State.trailerAt, parked]; rfl

end

/-- R41: parking at a bay whose over-current state is CLEAR. -/
theorem park_clear {i : SlotIx} {r : Record} {b : Bay} {s : State} (h : s.doors[b].ovc = .clear) :
    park i r b s = ((parking i r b s).modBay b (BayCtl.serve s.powerGoodMs)).modConverter
      (Converter.bayEnters s.timer.number b) := by
  rw [park_eq, enterServing_clear (by rw [parking_doors]; exact h), parking_powerGoodMs, parking_timer]

/-- R41, R47: parking at a bay whose over-current state is TRIPPED. -/
theorem park_tripped {i : SlotIx} {r : Record} {b : Bay} {s : State} (h : s.doors[b].ovc = .tripped) :
    park i r b s = presentAt .overcurrent b (some r.number) none ((parking i r b s).modBay b (BayCtl.become .fault)) := by
  rw [park_eq, enterServing_tripped (by rw [parking_doors]; exact h), parking_trailerAt]

/-- A bay changed twice. -/
theorem vector_set_twice {α : Type} {n : Nat} (v : Vector α n) (i : Fin n) (x y : α) :
    (v.set i.val x).set i.val y = v.set i.val y := by simp

/-- Settles O19: the table by `park_table`, the bay and the converter by the over-current state. -/
theorem parkingRestartsTheRecord : Obligations.ParkingRestartsTheRecord := by
  refine fun s i r b => ⟨park_table i r b s, fun clear => ⟨?_, ?_, ?_⟩, fun tripped => ⟨?_, ?_, ?_⟩, park_frame i r b s⟩
  · rw [park_clear clear, State.modConverter_bays, State.modBay_bays, parking_bays, vector_set_same, vector_set_twice]
    rfl
  · rw [park_clear clear]
    show Converter.bayEnters s.timer.number b (parking i r b s).converter = _
    rw [parking_converter]; rfl
  · rw [park_clear clear]
    exact parking_notices i r b s
  · rw [park_tripped tripped, presentAt_bays, State.modBay_bays, parking_bays, vector_set_same, vector_set_twice]
    rfl
  · rw [park_tripped tripped]
    exact parking_converter i r b s
  · rw [park_tripped tripped]
    show Notices.present (parking i r b s).timer.number _ _ _ (parking i r b s).notices = _
    rw [parking_timer, parking_notices, presentAt_notices, raiseAt_timer, ceaseHeld_timer]

end Sys2Proof.Machine

namespace Sys2Proof.Machine

/-! ## Departing (R10) -/

section
variable {b : Bay} {s : State}

theorem depart_of_none (h : s.recordAt b = none) : depart b s = s := by rw [depart, h]

/-- R10: the record PARKED at a bay departs. -/
theorem depart_of_some {i : SlotIx} {r : Record} (hi : s.bays[b].ref = some i) (hr : s.table[i] = some r) :
    depart b s = raiseAt .left b (some r.number) none
      ((((s.putSlot i (some (r.depart b s.timer.number))).modFeeder (Feeder.release b)).setHeat b false).modBay b
        fun x => { x with ref := none }) := by
  have stored : s.modSlot i (Record.depart b s.timer.number) = s.putSlot i (some (r.depart b s.timer.number)) := by
    rw [State.modSlot, hr]; rfl
  rw [depart, State.recordAt_eq_some.2 ⟨i, hi, hr⟩]
  simp only [State.modParked_of_ref hi, stored]

/-- R10: the reference of a bay to its record is cleared. -/
theorem depart_bays (b : Bay) (s : State) : (depart b s).bays =
    s.bays.set b.val { s.bays[b] with ref := if (s.recordAt b).isSome then none else s.bays[b].ref } := by
  cases h : s.recordAt b with
  | none =>
    rw [depart_of_none h]
    exact (Vector.set_getElem_self b.isLt).symm
  | some r =>
    obtain ⟨i, hi, hr⟩ := State.recordAt_eq_some.1 h
    rw [depart_of_some hi hr]; rfl

/-- R10: LEFT is raised. -/
theorem depart_notices (b : Bay) (s : State) : (depart b s).notices = match s.recordAt b with
    | some r => s.notices.raise s.timer.number (.bay .left b) (some r.number) none
    | none => s.notices := by
  cases h : s.recordAt b with
  | none => rw [depart_of_none h]
  | some r =>
    obtain ⟨i, hi, hr⟩ := State.recordAt_eq_some.1 h
    rw [depart_of_some hi hr]; rfl

end

/-! ## The conditions that cease (R52) -/

/-- R52: the conditions of a position in the order of their reports, each with whether it is present. -/
def conditionsAt (b : Bay) (s : State) : List (Bool × BayKind) :=
  [(s.bays[b].state = .held .tagFail, .tagFail),
    (match s.bays[b].state with | .held (.conflict _) => true | _ => false, .tagConflict),
    (match s.bays[b].state with | .held (.tableFull _) => true | _ => false, .tableFull),
    (s.bays[b].state = .fault, .overcurrent), (s.conditions[b].probeFault, .probeFault),
    (s.conditions[b].fuelLow, .fuelLow), (s.conditions[b].fuelDrop, .fuelDrop),
    (s.conditions[b].senderFault, .senderFault), (s.doors[b].doorLong, .doorLong)]

/-- R154: the notices after a cease report of each condition present. -/
def ceaseEach (b : Bay) (now : Round) (present : List (Bool × BayKind)) (n : Notices) : Notices :=
  present.foldl (fun n x => if x.1 = true then n.cease now (.bay x.2 b) else n) n

theorem ceaseIf_notices_eq (p : Bool) (k : BayKind) (b : Bay) (s : State) :
    (ceaseIf p k b s).notices = ceaseEach b s.timer.number [(p, k)] s.notices := by cases p <;> rfl

/-- R14: of the held conditions the one present ceases. -/
theorem ceaseHeld_notices (b : Bay) (s : State) :
    (ceaseHeld b s).notices = ceaseEach b s.timer.number ((conditionsAt b s).take 3) s.notices := by
  unfold ceaseHeld
  cases hb : s.bays[b].state with
  | held h => cases h <;> simp only [conditionsAt, hb] <;> rfl
  | _ => simp only [conditionsAt, hb]; rfl

/-- R52: the conditions of the position cease one after another. -/
theorem ceaseAll_notices (b : Bay) (s : State) :
    (ceaseAll b s).notices = ceaseEach b s.timer.number (conditionsAt b s) s.notices := by
  have split : conditionsAt b s = (conditionsAt b s).take 3 ++ (conditionsAt b s).drop 3 := rfl
  have held (rest : List (Bool × BayKind)) : ceaseEach b s.timer.number ((conditionsAt b s).take 3 ++ rest) s.notices =
      ceaseEach b s.timer.number rest (ceaseHeld b s).notices := by rw [ceaseHeld_notices]; rfl
  rw [split, held]
  simp only [ceaseAll, State.modCond_notices, ceaseIf_notices_eq, ceaseIf_timer, ceaseHeld_timer]
  rfl

theorem conditionsAt_congr {b : Bay} {s t : State} (hs : t.bays[b].state = s.bays[b].state)
    (hc : t.conditions = s.conditions) (hd : t.doors = s.doors) : conditionsAt b t = conditionsAt b s := by
  unfold conditionsAt; rw [hs, hc, hd]

/-! ## Disconnecting (R52) -/

/-- R52: a bay controller UNCONNECTED in a state. -/
def BayCtl.unconnected (st : BayState) (x : BayCtl) : BayCtl := { x.become st with connected := false, differing := 0 }

section
variable {b : Bay} {s : State}

theorem disconnect_of_connected (h : s.bays[b].connected = true) : disconnect b s =
    ((readerLeaves b (converterLeaves b (ceaseAll b (depart b s)))).modBay b
      (BayCtl.unconnected (if s.bays[b].state = .disabled then .disabled else .empty))).modDoor b
      fun _ => .unwatched := if_pos h

theorem ceaseAll_conditions (b : Bay) (s : State) : (ceaseAll b s).conditions = s.conditions.set b.val .none := by
  simp only [ceaseAll, State.modCond_conditions, ceaseIf_conditions, ceaseHeld_conditions]

/-- R52: the bay is EMPTY, or DISABLED as it was. -/
theorem disconnect_bays (h : s.bays[b].connected = true) : (disconnect b s).bays = s.bays.set b.val
    { state := if s.bays[b].state = .disabled then .disabled else .empty, connected := false, differing := 0,
      powerOn := false, powerGood := false, wait := none,
      ref := if (s.recordAt b).isSome then none else s.bays[b].ref } := by
  have ceased : (ceaseAll b (depart b s)).bays = (depart b s).bays := by rw [ceaseAll_frame]
  rw [disconnect_of_connected h]
  show (ceaseAll b (depart b s)).bays.set b.val (BayCtl.unconnected (if s.bays[b].state = .disabled then .disabled else .empty)
    (ceaseAll b (depart b s)).bays[b]) = _
  rw [ceased, depart_bays, vector_set_same, vector_set_twice]
  rfl

theorem disconnect_doors (h : s.bays[b].connected = true) : (disconnect b s).doors = s.doors.set b.val .unwatched := by
  rw [disconnect_of_connected h]
  show (ceaseAll b (depart b s)).doors.set b.val _ = _
  rw [ceaseAll_frame, depart_frame]

theorem disconnect_reader (h : s.bays[b].connected = true) :
    (disconnect b s).reader = s.reader.remove s.timer.timeUs b := by
  rw [disconnect_of_connected h]
  show Reader.remove (ceaseAll b (depart b s)).timer.timeUs b (ceaseAll b (depart b s)).reader = _
  rw [ceaseAll_frame, depart_frame]

theorem disconnect_converter (h : s.bays[b].connected = true) :
    (disconnect b s).converter = s.converter.bayLeaves s.timer.remaining b := by
  rw [disconnect_of_connected h]
  show Converter.bayLeaves (ceaseAll b (depart b s)).timer.remaining b (ceaseAll b (depart b s)).converter = _
  rw [ceaseAll_frame, depart_frame]

theorem disconnect_conditions (h : s.bays[b].connected = true) :
    (disconnect b s).conditions = s.conditions.set b.val .none := by
  rw [disconnect_of_connected h]
  show (ceaseAll b (depart b s)).conditions = _
  rw [ceaseAll_conditions, depart_frame]

/-- R52: the table, the permits and the grants are those that the departure leaves. -/
theorem disconnect_departed (h : s.bays[b].connected = true) : (disconnect b s).table = (depart b s).table ∧
    (disconnect b s).heat = (depart b s).heat ∧ (disconnect b s).feeder = (depart b s).feeder := by
  rw [disconnect_of_connected h]
  show (ceaseAll b (depart b s)).table = _ ∧ (ceaseAll b (depart b s)).heat = _ ∧ (ceaseAll b (depart b s)).feeder = _
  rw [ceaseAll_frame]
  exact ⟨rfl, rfl, rfl⟩

theorem disconnect_notices (h : s.bays[b].connected = true) :
    (disconnect b s).notices = ceaseEach b s.timer.number (conditionsAt b s) (depart b s).notices := by
  have timer : (depart b s).timer = s.timer := by rw [depart_frame]
  have state : (depart b s).bays[b].state = s.bays[b].state := by rw [depart_bays, vector_set_same]
  rw [disconnect_of_connected h]
  show (ceaseAll b (depart b s)).notices = _
  rw [ceaseAll_notices, timer, conditionsAt_congr state (by rw [depart_frame]) (by rw [depart_frame])]

/-- R10: what the departure of a PARKED record leaves. -/
theorem depart_parked {i : SlotIx} {r : Record} {since : Round} (hi : s.bays[b].ref = some i) (hr : s.table[i] = some r)
    (hp : r.place = .parked b since) :
    (depart b s).table = s.table.set i.val (some { r with
        place := .departed b since s.timer.number, defrost := { r.defrost with state := .idle, dripCount := 0 } })
      ∧ (depart b s).heat = s.heat.set b.val false
      ∧ (depart b s).feeder = { s.feeder with grants := s.feeder.grants.filter fun g => g.bay != b } := by
  have departed : r.depart b s.timer.number = { r with
      place := .departed b since s.timer.number, defrost := { r.defrost with state := .idle, dripCount := 0 } } := by
    simp only [Record.depart, hp]
  rw [depart_of_some hi hr, departed]
  exact ⟨rfl, rfl, rfl⟩

end

/-! ## The sense line (R37, R38) -/

/-- R38: a connect at an UNCONNECTED bay. -/
theorem exec_connect {s : State} {b : Bay} (hr : s.resetting = none) (hc : s.bays[b].connected = false) :
    exec (.connect b) s = .next (connect b (s.modLines b fun x => { x with sense := true })) := by
  show whenRunning s _ = _
  rw [whenRunning_of_none hr, senseAcceptance, if_neg (by rw [hc]; nofun)]; rfl

/-- The sense line of a bay stands open. -/
def senseOpen (b : Bay) (s : State) : State := s.modLines b fun x => { x with sense := false }

/-- R52: a disconnect at a CONNECTED bay. -/
theorem exec_disconnect {s : State} {b : Bay} (hr : s.resetting = none) (hc : s.bays[b].connected = true) :
    exec (.disconnect b) s = .next (disconnect b (senseOpen b s)) := by
  show whenRunning s _ = _
  rw [whenRunning_of_none hr, senseAcceptance, if_neg (by rw [hc]; nofun)]; rfl

/-- R38, R143: the bay is CONNECTED and its door watch begins afresh. -/
def connected (b : Bay) (s : State) : State :=
  (s.modBay b fun x => { x with connected := true, differing := 0 }).modDoor b fun _ => .unwatched

theorem connect_empty {b : Bay} {s : State} (hc : s.bays[b].connected = false) (hb : s.bays[b].state = .empty) :
    connect b s = identify b (connected b s) := by
  rw [connect, if_neg (by rw [hc]; nofun), hb]; rfl

theorem connect_disabled {b : Bay} {s : State} (hc : s.bays[b].connected = false) (hb : s.bays[b].state = .disabled) :
    connect b s = connected b s := by
  rw [connect, if_neg (by rw [hc]; nofun), hb]; rfl

/-! ## The identify queue and the converter (R56, R64, R76, R84) -/

namespace Reader

variable (now : Nat) (b : Bay) (r : Reader)

theorem append_eq : r.append now b =
    { state := if r.state = .idle then .attempt 1 now .wake else r.state, queue := r.queue ++ [b],
      ahead := if r.state = .idle then 0 else r.ahead } := by
  unfold Reader.append
  cases r.state <;> rfl

theorem takeHead_eq : r.takeHead now =
    { state := if r.queue = [] then .idle else .attempt 1 now .wake, queue := r.queue, ahead := 0 } := by
  unfold Reader.takeHead
  cases hq : r.queue with
  | nil => simp
  | cons head rest => simp [beginRead, beginAttempt, hq]

variable {b r}

theorem remove_head {rest : List Bay} (h : r.queue = b :: rest) : r.remove now b =
    { state := if rest = [] then .idle else .attempt 1 now .wake, queue := rest, ahead := 0 } := by
  simp only [Reader.remove, h, if_true, takeHead_eq]

theorem remove_other {head : Bay} {rest : List Bay} (h : r.queue = head :: rest) (hb : head ≠ b) :
    r.remove now b = { r with queue := head :: rest.erase b } := by
  simp only [Reader.remove, h, if_neg hb]

theorem remove_empty (h : r.queue = []) : r.remove now b = r := by simp only [Reader.remove, h]

end Reader

theorem Converter.bayLeaves_idle {c : Converter} {b : Bay} (h : ∀ ch, c.stage.channel = some ch → ch.bay ≠ b)
    (remaining : Nat) : c.bayLeaves remaining b = c.removeBay b := by
  unfold bayLeaves
  split
  next ch hc => exact if_neg (h ch hc)
  · rfl

theorem Converter.bayLeaves_inFlight {c : Converter} {b : Bay} {ch : Channel} (h : c.stage.channel = some ch)
    (hb : ch.bay = b) (remaining : Nat) : c.bayLeaves remaining b = (c.removeBay b).takeNext remaining := by
  simp only [bayLeaves, h, hb, if_true]

theorem bay_bne (x : Channel) (b : Bay) : (x.bay != b) = decide (x.bay ≠ b) := by
  rw [bne, decide_not, beq_eq_decide]

/-- Settles O25: the two connects, the disconnect field by field, and the queue and converter by themselves. -/
theorem connectIdentifiesAndDisconnectEmpties : Obligations.ConnectIdentifiesAndDisconnectEmpties := by
  refine ⟨?_, ?_, ?_, ?_⟩
  · intro s b hr hc seen
    exact ⟨fun empty => by rw [exec_connect hr hc, connect_empty (s := s.modLines b _) hc empty]; rfl,
      fun disabled => by rw [exec_connect hr hc, connect_disabled (s := s.modLines b _) hc disabled]; rfl⟩
  · intro s b hr hc
    obtain ⟨table, heat, feeder⟩ := disconnect_departed (s := senseOpen b s) hc
    have outside : (disconnect b (senseOpen b s)).outside = (senseOpen b s).outside := by rw [disconnect_frame]
    refine ⟨_, exec_disconnect hr hc, fun c => ?_, disconnect_doors hc, disconnect_reader hc, disconnect_converter hc,
      disconnect_conditions hc, outside, fun i r since hi ht hp => ?_, fun absent => ?_, ?_, ?_⟩
    · rw [disconnect_bays (s := senseOpen b s) hc, vector_set_get, ite_not]; rfl
    · rw [table, heat, feeder]
      exact depart_parked hi ht hp
    · rw [table, heat, feeder, depart_of_none (s := senseOpen b s) absent]
      exact ⟨rfl, rfl, rfl⟩
    · exact (disconnect_notices (s := senseOpen b s) hc).trans (by rw [depart_notices]; rfl)
    · exact (disconnect_frame b (senseOpen b s)).trans (by rw [outside]; rfl)
  · exact fun now b r => ⟨Reader.append_eq now b r, fun rest => Reader.remove_head now,
      fun head rest => Reader.remove_other now, Reader.remove_empty now⟩
  · intro remaining b c removed
    have removed_eq : c.removeBay b = removed := by simp only [Converter.removeBay, bay_bne]; rfl
    rw [← removed_eq]
    exact ⟨fun h => Converter.bayLeaves_idle h remaining, fun ch h hb => Converter.bayLeaves_inFlight h hb remaining⟩

end Sys2Proof.Machine

namespace Sys2Proof.Machine

/-! # The judgement of an attempt (O31) -/

namespace Reader

/-! ## The check byte and the number of a frame (R60, R61) -/

theorem shiftLeft_one (reg : Byte) : reg <<< 1 = BitVec.ofNat 8 ((2 * reg.toNat) % 256) := by
  apply BitVec.eq_of_toNat_eq
  rw [BitVec.toNat_shiftLeft, BitVec.toNat_ofNat, Nat.shiftLeft_eq]
  omega

/-- R61: the check register is shifted, and meets the polynomial where the bit differs from the one shifted out. -/
theorem checkBit_eq (reg : Byte) (bit : Bool) : checkBit reg bit =
    BitVec.ofNat 8 ((2 * reg.toNat) % 256) ^^^ (if (bit != reg.getLsbD 7) then 7 else 0) := by
  simp only [checkBit, shiftLeft_one]
  split
  · rfl
  · exact (BitVec.xor_zero).symm

/-- R60: the four bytes of a number, least significant first, give the number. -/
theorem frameNumber_wordBytes (n : TrailerNo) :
    frameNumber (n.extractLsb' 0 8) (n.extractLsb' 8 8) (n.extractLsb' 16 8) (n.extractLsb' 24 8) = n := by
  unfold frameNumber
  rw [BitVec.extractLsb'_append_extractLsb'_eq_extractLsb' (by omega),
    BitVec.extractLsb'_append_extractLsb'_eq_extractLsb' (by omega),
    BitVec.extractLsb'_append_extractLsb'_eq_extractLsb' (by omega)]
  exact BitVec.extractLsb'_eq_self

section
variable {b0 b1 b2 b3 b4 : Byte}

/-- R62: a good frame names its trailer. -/
theorem judge_good (h : b4 = checkByte [b0, b1, b2, b3] ∧ frameNumber b0 b1 b2 b3 ≠ 0) :
    judge [b0, b1, b2, b3, b4] = some (frameNumber b0 b1 b2 b3) := by
  rw [judge, if_pos h.1, if_neg h.2]

/-- R62: a frame with a wrong check byte, or of number 0, is bad. -/
theorem judge_bad (h : ¬(b4 = checkByte [b0, b1, b2, b3] ∧ frameNumber b0 b1 b2 b3 ≠ 0)) :
    judge [b0, b1, b2, b3, b4] = none := by
  rw [judge]
  split
  next check => exact if_pos (not_not.1 fun number => h ⟨check, number⟩)
  · rfl

end

/-- R61, R62: the frame of every trailer number passes. -/
theorem judge_frame {n : TrailerNo} (h : n ≠ 0) : judge (wordBytes n ++ [checkByte (wordBytes n)]) = some n :=
  (judge_good ⟨rfl, by rw [frameNumber_wordBytes]; exact h⟩).trans (congrArg some (frameNumber_wordBytes n))

theorem deliver_cons {now : Nat} {b : Bay} {rest : List Bay} {r : Reader} (h : r.queue = b :: rest) : r.deliver now =
    { state := if rest = [] then .idle else .attempt 1 now .wake, queue := rest, ahead := 0 } := by
  simp only [deliver, takeHead_eq, h, List.tail_cons]

end Reader

/-! ## The outcome of an attempt (R12, R13, R63) -/

/-- R63: the head has left the queue, and the reader has taken the next. -/
def headFreed (rest : List Bay) (s : State) : State := { s with reader :=
  { state := if rest = [] then .idle else .attempt 1 s.timer.timeUs .wake, queue := rest, ahead := 0 } }

section
variable {s : State} {b : Bay} {rest : List Bay}

theorem deliverOutcome_some (h : s.reader.queue = b :: rest) (n : TrailerNo) :
    deliverOutcome (some n) s = matchNumber b n (headFreed rest s) := by
  simp only [deliverOutcome, h, List.head?_cons, headFreed, State.modReader, Reader.deliver_cons h]

theorem deliverOutcome_none (h : s.reader.queue = b :: rest) :
    deliverOutcome none s = hold b .tagFail (headFreed rest s) := by
  simp only [deliverOutcome, h, List.head?_cons, headFreed, State.modReader, Reader.deliver_cons h]

theorem attemptFails_again {n : Nat} (h : n < 3) (start : Nat) :
    attemptFails n start s = s.modReader (Reader.enterSpacing n start) := if_neg (Nat.not_le.2 h)

theorem attemptFails_last {n : Nat} (h : 3 ≤ n) (start : Nat) : attemptFails n start s = deliverOutcome none s := if_pos h

variable {n start began slot : Nat} {count : BitVec 3} {shift b0 b1 b2 b3 b4 : Byte}

/-- R62: a good frame is judged. -/
theorem attemptJudged_good (hs : s.reader.state = .attempt n start (.bits began slot count shift [b0, b1, b2, b3, b4]))
    (good : b4 = Reader.checkByte [b0, b1, b2, b3] ∧ Reader.frameNumber b0 b1 b2 b3 ≠ 0) :
    attemptJudged s = deliverOutcome (some (Reader.frameNumber b0 b1 b2 b3)) s := by
  simp only [attemptJudged, hs, Reader.judge_good good]; rfl

/-- R62: a bad frame is judged at the end of slot 39. -/
theorem attemptJudged_bad (hs : s.reader.state = .attempt n start (.bits began slot count shift [b0, b1, b2, b3, b4]))
    (bad : ¬(b4 = Reader.checkByte [b0, b1, b2, b3] ∧ Reader.frameNumber b0 b1 b2 b3 ≠ 0)) :
    attemptJudged s =
      attemptFails n start (s.modReader (Reader.bringTo s.timer.timeUs (Reader.lastSlotEnd began))) := by
  simp only [attemptJudged, hs, Reader.judge_bad bad]; rfl

end

theorem exec_attemptJudged {s : State} (h : s.resetting = none) : exec .attemptJudged s = .next (attemptJudged s) :=
  whenRunning_of_none h attemptJudged

/-- Settles O31: the judgement of the five bytes, and the match of the number in the state with the head freed. -/
theorem judgedAttemptDeliversItsOutcome : Obligations.JudgedAttemptDeliversItsOutcome := by
  refine ⟨?_, Reader.checkBit_eq, fun _ _ _ _ => rfl, fun n => Reader.judge_frame, by decide +kernel⟩
  intro s n start began slot count shift b0 b1 b2 b3 b4 b rest hr hq hs number good freed
  rw [exec_attemptJudged hr]
  refine ⟨fun bad first => congrArg _ ?_, fun bad third => congrArg _ ?_, fun passed => ?_⟩
  · have ahead : max s.reader.ahead (began + 10000 - s.timer.timeUs) =
        max (s.timer.timeUs + s.reader.ahead) (began + 10000) - s.timer.timeUs := by omega
    rw [attemptJudged_bad hs bad, attemptFails_again first, ← ahead]; rfl
  · rw [attemptJudged_bad hs bad, attemptFails_last third]
    exact deliverOutcome_none (s := s.modReader _) hq
  · have delivered : attemptJudged s = matchNumber b number freed :=
      (attemptJudged_good hs passed).trans (deliverOutcome_some hq _)
    rw [delivered]
    exact ⟨fun i r hi ht parked => congrArg _ (matchNumber_parked (s := freed) hi ht parked),
      fun i r hi ht away => congrArg _ (matchNumber_known (s := freed) hi ht away),
      fun i unknown free => congrArg _ (matchNumber_created (s := freed) unknown free),
      fun unknown full => congrArg _ (matchNumber_full (s := freed) unknown full)⟩

end Sys2Proof.Machine

namespace Sys2Proof.Machine

/-! # LIST (O17): the numbers found, put in ascending order -/

/-! ## Insertion sort -/

section
variable {α : Type} (ahead : α → α → Bool)

/-- What is inserted joins the list. -/
theorem insertBy_perm (a : α) (l : List α) : (insertBy ahead a l).Perm (a :: l) := by
  induction l with
  | nil => exact .refl _
  | cons b rest ih =>
    unfold insertBy
    split
    · exact .refl _
    · exact (ih.cons b).trans (.swap a b rest)

/-- A list put in order has the elements it had. -/
theorem sortBy_perm (l : List α) : (sortBy ahead l).Perm l := by
  have inserted (sorted : List α) :
      (l.foldl (fun sorted a => insertBy ahead a sorted) sorted).Perm (sorted ++ l) := by
    induction l generalizing sorted with
    | nil => rw [List.foldl_nil, List.append_nil]
    | cons a rest ih =>
      have joined : (insertBy ahead a sorted ++ rest).Perm (sorted ++ a :: rest) :=
        ((insertBy_perm ahead a sorted).append_right rest).trans List.perm_middle.symm
      exact (ih (insertBy ahead a sorted)).trans joined
  exact inserted []

end

/-- The order of trailer numbers (R21). -/
def numberUpTo (x y : TrailerNo) : Prop := x.toNat ≤ y.toNat

/-- Whether a number stands ahead of another. -/
def numberAhead (x y : TrailerNo) : Bool := decide (x.toNat < y.toNat)

/-- A number inserted into an ascending list leaves it ascending. -/
theorem insertBy_ascending (a : TrailerNo) {l : List TrailerNo} (h : l.Pairwise numberUpTo) :
    (insertBy numberAhead a l).Pairwise numberUpTo := by
  induction l with
  | nil => exact List.pairwise_singleton _ a
  | cons b rest ih =>
    obtain ⟨first, others⟩ := List.pairwise_cons.1 h
    unfold insertBy
    split
    next less =>
      have below : a.toNat < b.toNat := of_decide_eq_true less
      refine List.pairwise_cons.2 ⟨fun x hx => ?_, h⟩
      rcases List.mem_cons.1 hx with rfl | later
      · exact below.le
      · exact below.le.trans (first x later)
    next notLess =>
      have above : b.toNat ≤ a.toNat := Nat.le_of_not_lt fun less => notLess (decide_eq_true less)
      refine List.pairwise_cons.2 ⟨fun x hx => ?_, ih others⟩
      rcases List.mem_cons.1 ((insertBy_perm _ a rest).mem_iff.1 hx) with rfl | later
      · exact above
      · exact first x later

/-- Numbers put in order are ascending. -/
theorem sortBy_ascending (l : List TrailerNo) : (sortBy numberAhead l).Pairwise numberUpTo := by
  have kept (sorted : List TrailerNo) (h : sorted.Pairwise numberUpTo) :
      (l.foldl (fun sorted a => insertBy numberAhead a sorted) sorted).Pairwise numberUpTo := by
    induction l generalizing sorted with
    | nil => exact h
    | cons a rest ih => exact ih _ (insertBy_ascending a h)
  exact kept [] .nil

/-! ## The numbers in a lifecycle state -/

/-- The number of the record in a slot, when it is in the lifecycle state of a code. -/
def numberIn (s : State) (code : Nat) (i : SlotIx) : Option TrailerNo :=
  (s.table[i]).bind fun r => if r.place.code = code then some r.number else none

theorem numbersIn_eq (s : State) (code : Nat) :
    numbersIn s code = sortBy numberAhead (allSlots.filterMap (numberIn s code)) := rfl

theorem numberIn_eq_some {s : State} {code : Nat} {i : SlotIx} {n : TrailerNo} :
    numberIn s code i = some n ↔ ∃ r, s.table[i] = some r ∧ r.place.code = code ∧ r.number = n := by
  simp only [numberIn, Option.bind_eq_some_iff, Option.ite_none_right_eq_some, Option.some.injEq]

theorem numberIn_isSome (s : State) (code : Nat) (i : SlotIx) :
    (numberIn s code i).isSome = (s.table[i]).any fun r => r.place.code == code := by
  unfold numberIn
  cases s.table[i] with
  | none => rfl
  | some r =>
    show (if r.place.code = code then some r.number else none).isSome = (r.place.code == code)
    split
    next h => simp [h]
    next h => simp [h]

theorem mem_numbersIn {s : State} {code : Nat} {n : TrailerNo} :
    n ∈ numbersIn s code ↔ ∃ i : SlotIx, ∃ r, s.table[i] = some r ∧ r.place.code = code ∧ r.number = n := by
  simp only [numbersIn_eq, (sortBy_perm _ _).mem_iff, List.mem_filterMap, numberIn_eq_some]
  exact ⟨fun ⟨i, _, found⟩ => ⟨i, found⟩, fun ⟨i, found⟩ => ⟨i, List.mem_finRange i, found⟩⟩

theorem numbersIn_length (s : State) (code : Nat) :
    (numbersIn s code).length = allSlots.countP fun i => (s.table[i]).any fun r => r.place.code == code := by
  rw [numbersIn_eq, (sortBy_perm _ _).length_eq, List.length_filterMap_eq_countP]
  exact List.countP_congr fun i _ => by rw [numberIn_isSome]

/-- Settles O17: the answer's numbers are `numbersIn`, sorted, with the members and the count of the table. -/
theorem listAnswersAscendingNumbers : Obligations.ListAnswersAscendingNumbers := by
  intro s v ready
  refine ⟨fun lo hi => ⟨numbersIn s v.toNat, exec_answers rfl ready (if_pos ⟨lo, hi⟩), ?_, fun n => mem_numbersIn,
    numbersIn_length s v.toNat⟩, fun bad => exec_answers rfl ready (if_neg (by omega))⟩
  exact sortBy_ascending _

end Sys2Proof.Machine

namespace Sys2Proof.Machine

/-! # The reads (O16) -/

/-! ## Numbers as bytes (R175) -/

/-- A number as one byte. -/
def bytes1 (n : Nat) : List Byte := [BitVec.ofNat 8 n]

/-- A number as two bytes, little-endian. -/
def bytes2 (n : Nat) : List Byte := [BitVec.ofNat 8 n, BitVec.ofNat 8 (n / 256)]

/-- A number as four bytes, little-endian. -/
def bytes4 (n : Nat) : List Byte :=
  [BitVec.ofNat 8 n, BitVec.ofNat 8 (n / 256), BitVec.ofNat 8 (n / 65536), BitVec.ofNat 8 (n / 16777216)]

/-- A signed number as two bytes, in two's complement. -/
def signed2 (v : Int) : List Byte := bytes2 (v % 65536).toNat

/-- A presence byte, bit by bit. -/
def bits (a b c d e : Bool) : List Byte :=
  bytes1 (a.toNat + 2 * b.toNat + 4 * c.toNat + 8 * d.toNat + 16 * e.toNat)

theorem extract_byte {w : Nat} (v : BitVec w) (k : Nat) : v.extractLsb' k 8 = BitVec.ofNat 8 (v.toNat / 2 ^ k) := by
  apply BitVec.eq_of_toNat_eq
  rw [BitVec.extractLsb'_toNat, BitVec.toNat_ofNat, Nat.shiftRight_eq_div_pow]

theorem halfBytes_eq (v : Half) : halfBytes v = bytes2 v.toNat := by
  simp only [halfBytes, extract_byte, bytes2, Nat.pow_zero, Nat.div_one]; rfl

theorem wordBytes_eq (v : Word) : wordBytes v = bytes4 v.toNat := by
  simp only [wordBytes, extract_byte, bytes4, Nat.pow_zero, Nat.div_one]; rfl

theorem ofNat_byte_congr {m n : Nat} (h : m % 256 = n % 256) : BitVec.ofNat 8 m = BitVec.ofNat 8 n :=
  BitVec.eq_of_toNat_eq (by rw [BitVec.toNat_ofNat, BitVec.toNat_ofNat]; exact h)

theorem halfNat_eq (n : Nat) : halfNat n = bytes2 n := by
  rw [halfNat, halfBytes_eq, BitVec.toNat_ofNat, bytes2, bytes2, ofNat_byte_congr (m := n % 2 ^ 16) (n := n) (by omega),
    ofNat_byte_congr (m := n % 2 ^ 16 / 256) (n := n / 256) (by omega)]

theorem wordNat_eq (n : Nat) : wordNat n = bytes4 n := by
  rw [wordNat, wordBytes_eq, BitVec.toNat_ofNat, bytes4, bytes4, ofNat_byte_congr (m := n % 2 ^ 32) (n := n) (by omega),
    ofNat_byte_congr (m := n % 2 ^ 32 / 256) (n := n / 256) (by omega),
    ofNat_byte_congr (m := n % 2 ^ 32 / 65536) (n := n / 65536) (by omega),
    ofNat_byte_congr (m := n % 2 ^ 32 / 16777216) (n := n / 16777216) (by omega)]

theorem halfInt_eq (v : Int) : halfInt v = signed2 v := by
  rw [halfInt, halfBytes_eq, BitVec.toNat_ofInt]; rfl

theorem presence_five (a b c d e : Bool) : presence [a, b, c, d, e] = bits a b c d e :=
  congrArg bytes1 (by simp only [presenceValue]; omega)
theorem presence_four (a b c d : Bool) : presence [a, b, c, d] = bits a b c d false := presence_five a b c d false
theorem presence_three (a b c : Bool) : presence [a, b, c] = bits a b c false false := presence_five a b c false false
theorem presence_two (a b : Bool) : presence [a, b] = bits a b false false false := presence_five a b false false false
theorem presence_one (a : Bool) : presence [a] = bits a false false false false := presence_five a false false false false

/-- An absent field reads as the bytes of 0. -/
theorem optional_eq {α β : Type} (f : α → List Byte) (g : α → β) (u : β → List Byte) (zero : β) (hf : ∀ a, f a = u (g a))
    (o : Option α) : optional (u zero) f o = u ((o.map g).getD zero) := by
  cases o with
  | none => rfl
  | some a => exact hf a

section
variable {α : Type}

theorem optional_bytes1 (g : α → Nat) (o : Option α) :
    optional [0] (fun a => bytes1 (g a)) o = bytes1 ((o.map g).getD 0) := optional_eq _ g bytes1 0 (fun _ => rfl) o

theorem optional_halfBytes (o : Option Half) : optional zeroHalf halfBytes o = bytes2 ((o.map (·.toNat)).getD 0) :=
  optional_eq halfBytes (·.toNat) bytes2 0 halfBytes_eq o

theorem optional_wordBytes (o : Option Word) : optional [0, 0, 0, 0] wordBytes o = bytes4 ((o.map (·.toNat)).getD 0) :=
  optional_eq wordBytes (·.toNat) bytes4 0 wordBytes_eq o

theorem optional_halfNat (o : Option Nat) : optional zeroHalf halfNat o = bytes2 (o.getD 0) :=
  (optional_eq halfNat id bytes2 0 halfNat_eq o).trans (by rw [Option.map_id]; rfl)

theorem optional_wordNat (o : Option Nat) : optional [0, 0, 0, 0] wordNat o = bytes4 (o.getD 0) :=
  (optional_eq wordNat id bytes4 0 wordNat_eq o).trans (by rw [Option.map_id]; rfl)

theorem optional_halfInt (o : Option Int) : optional zeroHalf halfInt o = signed2 (o.getD 0) :=
  (optional_eq halfInt id signed2 0 halfInt_eq o).trans (by rw [Option.map_id]; rfl)

theorem optional_round (o : Option Grant) :
    optional zeroHalf (fun g : Grant => halfBytes g.round) o = bytes2 ((o.map (·.round.toNat)).getD 0) :=
  optional_eq (fun g : Grant => halfBytes g.round) (·.round.toNat) bytes2 0 (fun g => halfBytes_eq g.round) o

end

theorem byteNat_eq (n : Nat) : byteNat n = bytes1 n := rfl

/-! ## The layouts (R175, Tables 58 and 60) -/

theorem curveNumber_eq (c : Option (Fin 8)) : curveNumber c = (c.map (·.val)).getD 255 := by cases c <;> rfl

/-- R175: the settings block. -/
theorem Settings.block_eq (x : Settings) : x.block =
    bytes1 ((x.fuelCurve.map (·.val)).getD 255) ++ bytes1 ((x.probeCurve.map (·.val)).getD 255) ++ bytes1 x.heaterLoad
      ++ bytes2 x.interval ++ bytes1 x.clockMode.code ++ signed2 x.termination ++ bytes2 x.maxHeat ++ bytes2 x.drip
      ++ bytes2 x.lowFuel ++ bytes2 x.dropThreshold ++ bytes2 x.doorRunning ++ bytes2 x.doorStopped := by
  simp only [block, curveNumber_eq, byteNat_eq, halfNat_eq, halfInt_eq]

/-- Table 58, offsets 2 to 34. -/
theorem Record.placeBytes_eq (r : Record) : r.placeBytes =
    bytes1 r.place.code ++ bytes4 r.number.toNat ++ bytes1 r.origin.code
      ++ bits r.place.bay?.isSome r.place.lastBay.isSome r.place.since.isSome r.place.leftAt.isSome false
      ++ bytes1 ((r.place.bay?.map (·.val)).getD 0) ++ bytes1 ((r.place.lastBay.map (·.val)).getD 0)
      ++ bytes2 ((r.place.since.map (·.toNat)).getD 0) ++ bytes2 ((r.place.leftAt.map (·.toNat)).getD 0)
      ++ r.settings.block := by
  simp only [placeBytes, byteNat_eq, wordBytes_eq, presence_four, optional_bytes1, optional_halfBytes]

/-- Table 58, offsets 35 to 47. -/
theorem FuelFigures.bytes_eq (f : FuelFigures) : f.bytes =
    bits f.lastResistance.isSome f.lastLevel.isSome f.filtered.isSome f.baseline.isSome f.lastRound.isSome
      ++ bytes2 (f.lastResistance.getD 0) ++ signed2 (f.lastLevel.getD 0) ++ signed2 (f.filtered.getD 0)
      ++ signed2 (f.baseline.getD 0) ++ bytes2 ((f.lastRound.map (·.toNat)).getD 0) ++ bytes1 f.errorRun
      ++ bytes1 f.lastError.code := by
  simp only [bytes, byteNat_eq, presence_five, optional_halfNat, optional_halfInt, optional_halfBytes]

/-- Table 58, offsets 48 to 56. -/
theorem ProbeFigures.bytes_eq (p : ProbeFigures) : p.bytes =
    bits p.lastResistance.isSome p.coil.isSome false false false ++ bytes4 (p.lastResistance.getD 0)
      ++ signed2 (p.coil.getD 0) ++ bytes1 p.errorRun ++ bytes1 p.lastError.code := by
  simp only [bytes, byteNat_eq, presence_two, optional_wordNat, optional_halfInt]

/-- Table 58, offsets 57 to 73. -/
theorem DefrostFigures.bytes_eq (d : DefrostFigures) (g : Option Grant) : d.bytes g =
    bits d.state.cls.isSome d.state.granted.isSome g.isSome g.isSome false ++ bytes1 d.state.code
      ++ bytes1 ((d.state.cls.map (·.code)).getD 0) ++ bytes1 ((d.state.granted.map (·.code)).getD 0)
      ++ bytes1 ((g.map (·.load)).getD 0) ++ bytes2 ((g.map (·.round.toNat)).getD 0) ++ bytes4 d.intervalCount
      ++ bytes2 d.heatRounds ++ bytes2 d.dripCount ++ bytes2 d.completed := by
  simp only [bytes, byteNat_eq, presence_four, optional_bytes1, optional_round, wordNat_eq, halfNat_eq]

/-- Table 58, offsets 74 to 81. -/
theorem DoorFigures.bytes_eq (f : DoorFigures) : f.bytes =
    bits f.lastChange.isSome false false false false ++ bytes1 f.state.code ++ bytes2 f.openings ++ bytes2 f.openRounds
      ++ bytes2 ((f.lastChange.map (·.toNat)).getD 0) := by
  simp only [bytes, byteNat_eq, presence_one, halfNat_eq, optional_halfBytes]

/-- R36, R40: the held reason of a bay state. -/
def BayState.reason : BayState → Option Held
  | .held h => some h
  | .empty | .identifying | .serving | .fault | .disabled => none

/-- Table 60. -/
theorem bayBytes_eq (x : BayCtl) (d : DoorWatch) (rank : Nat) (trailer : Option TrailerNo) : bayBytes x d rank trailer =
    bytes1 x.state.code ++ bits x.state.reason.isSome (x.state.reason.bind Held.tag).isSome trailer.isSome false false
      ++ bytes1 ((x.state.reason.map (·.code)).getD 0) ++ bytes4 (((x.state.reason.bind Held.tag).map (·.toNat)).getD 0)
      ++ bits x.connected x.powerOn x.powerGood false false ++ bytes1 d.ovc.code ++ bytes1 d.figures.state.code
      ++ bytes1 d.run.code ++ bytes1 rank ++ bytes4 ((trailer.map (·.toNat)).getD 0) := by
  have reason : bayBytes x d rank trailer = byteNat x.state.code
      ++ presence [x.state.reason.isSome, (x.state.reason.bind Held.tag).isSome, trailer.isSome]
      ++ optional [0] (fun h : Held => byteNat h.code) x.state.reason
      ++ optional [0, 0, 0, 0] wordBytes (x.state.reason.bind Held.tag)
      ++ presence [x.connected, x.powerOn, x.powerGood] ++ byteNat d.ovc.code ++ byteNat d.figures.state.code
      ++ byteNat d.run.code ++ byteNat rank ++ optional [0, 0, 0, 0] wordBytes trailer := rfl
  simp only [reason, byteNat_eq, presence_three, optional_bytes1, optional_wordBytes]

/-- R91, R175: a curve. -/
theorem curveBytes_some (c : Fin 8) (v : Curve) : curveBytes c (some v) =
    bytes1 c.val ++ bytes1 (channelKindCode v.kind) ++ bytes1 v.points.length
      ++ v.points.flatMap fun p => bytes4 p.1 ++ signed2 p.2 := by
  have point : curvePointBytes = fun p => bytes4 p.1 ++ signed2 p.2 := by
    funext p; rw [curvePointBytes, wordNat_eq, halfInt_eq]
  rw [curveBytes, point]; rfl

/-! ## The reads by themselves -/

section
variable {s : State}

/-- R20: LOOKUP reads the bay of its operand. -/
theorem lookupBay_bay (b : Bay) : ∃ h : (BitVec.ofNat 32 b.val).toNat < 16, (⟨(BitVec.ofNat 32 b.val).toNat, h⟩ : Bay) = b := by
  have number : (BitVec.ofNat 32 b.val).toNat = b.val := by
    rw [BitVec.toNat_ofNat]; exact Nat.mod_eq_of_lt (by omega)
  exact ⟨by omega, Fin.ext number⟩

theorem lookupBay_found {b : Bay} {r : Record} (hr : s.recordAt b = some r) :
    lookupBay (BitVec.ofNat 32 b.val) s = okay (r.bytes (s.grantOf r)) := by
  obtain ⟨lt, ix⟩ := lookupBay_bay b
  rw [lookupBay, dif_pos lt, ix, hr]; rfl

theorem lookupBay_absent {b : Bay} (hr : s.recordAt b = none) :
    lookupBay (BitVec.ofNat 32 b.val) s = refusal .notFound := by
  obtain ⟨lt, ix⟩ := lookupBay_bay b
  rw [lookupBay, dif_pos lt, ix, hr]

/-- R20: the operands that LOOKUP refuses. -/
theorem lookup_bad {sel : Byte} {op : Word} (h : (sel = 0 ∧ op = 0) ∨ (sel = 1 ∧ 16 ≤ op.toNat) ∨ 2 ≤ sel.toNat) :
    lookup sel op s = (s, refusal .badValue) := by
  rcases h with ⟨rfl, rfl⟩ | ⟨rfl, wide⟩ | other
  · rfl
  · exact congrArg (Prod.mk s) (dif_neg (Nat.not_lt.2 wide))
  · unfold lookup
    split
    next zero => omega
    next one => omega
    · rfl

theorem byte_toNat {n : Nat} (h : n < 256) : (BitVec.ofNat 8 n).toNat = n := by
  rw [BitVec.toNat_ofNat]; exact Nat.mod_eq_of_lt h

theorem bayStatus_bay (b : Bay) : bayStatus (BitVec.ofNat 8 b.val) s =
    (s, okay (bayBytes s.bays[b] s.doors[b] s.feeder.rank[b] (s.trailerAt b))) := by
  rw [bayStatus, onBay, bayOf_eq (byte_toNat (by omega))]

theorem curveRead_curve (c : Fin 8) : curveRead (BitVec.ofNat 8 c.val) s = (s, okay (curveBytes c s.curves[c])) := by
  have number : (BitVec.ofNat 8 c.val).toNat = c.val := byte_toNat (by omega)
  have ix : curveIx (BitVec.ofNat 8 c.val) = some c := by
    rw [curveIx, dif_pos (by omega)]; exact congrArg some (Fin.ext number)
  rw [curveRead, ix]

theorem curveRead_bad {c : Byte} (h : 8 ≤ c.toNat) : curveRead c s = (s, refusal .badValue) := by
  rw [curveRead, curveIx, dif_neg (Nat.not_lt.2 h)]

/-- R156: a route as read. -/
theorem routeBytes_eq (n : Notices) (k : Kind) : n.routeBytes k =
    [BitVec.ofNat 8 (k.index.val + 1), if (n.route k).masked then 1 else 0,
      if (n.route k).cls = .high then 1 else 0] := by
  simp only [Notices.routeBytes, maskCode, Kind.number]
  cases (n.route k).masked <;> cases (n.route k).cls <;> rfl

/-- Table 49: the numbers that name no kind. -/
theorem kindOf_eq_none {v : Byte} (h : v = 0 ∨ 16 < v.toNat) : kindOf v = none := by
  rcases h with rfl | beyond
  · rfl
  · unfold kindOf
    split
    · rfl
    next row => omega
    next n _ number =>
      have outside : bayKinds[n]? = none := List.getElem?_eq_none (show 15 ≤ n by omega)
      rw [outside]; rfl

/-- Table 56: the codes that name no setting. -/
theorem settingOf_eq_none {v : Byte} (h : v = 0 ∨ 15 < v.toNat) : settingOf v = none := by
  rcases h with rfl | beyond
  · rfl
  · unfold settingOf
    split
    case h_16 => rfl
    all_goals omega

/-- R173: the answer to GET of a setting. -/
theorem get_setting {v : Byte} {x : Setting} (h : settingOf v = some x) (hx : x.code = v) : get v s =
    (s, okay ([v, BitVec.ofNat 8 (settingValues x s).length] ++ (settingValues x s).flatMap bytes4)) := by
  have four : wordNat = bytes4 := funext wordNat_eq
  rw [get, h]
  simp only [getAnswer, settingAnswer, hx, four]; rfl

end

/-- Settles O16: each read by its operands, then each layout by its fields. The fields that depend on a record's place and
defrost state, or on a bay's state, are read off case by case. -/
theorem readsAnswerAndChangeNothing : Obligations.ReadsAnswerAndChangeNothing := by
  refine ⟨fun s ready => ⟨?_, ?_, ?_, ?_, ?_, ?_, ?_, ?_, ?_, ?_, ?_, ?_, ?_⟩, ?_⟩
  · exact fun n i r hn hi hr => exec_answers rfl ready (onNamed_known hn hi hr)
  · exact fun n hn unknown => exec_answers rfl ready (onNamed_unknown hn unknown)
  · exact fun b r hr => exec_answers rfl ready (congrArg (Prod.mk s) (lookupBay_found hr))
  · exact fun b absent => exec_answers rfl ready (congrArg (Prod.mk s) (lookupBay_absent absent))
  · exact fun sel op bad => exec_answers rfl ready (lookup_bad bad)
  · exact fun b => exec_answers rfl ready (bayStatus_bay b)
  · intro c wide
    exact exec_answers rfl ready (show bayStatus c s = _ by rw [bayStatus, onBay, bayOf_eq_none wide])
  · exact fun c => exec_answers rfl ready (curveRead_curve c)
  · exact fun c wide => exec_answers rfl ready (curveRead_bad wide)
  · intro v k hk
    exact exec_answers rfl ready (show routeRead v s = _ by rw [routeRead, hk, ← routeBytes_eq])
  · intro v bad
    exact exec_answers rfl ready (show routeRead v s = _ by rw [routeRead, kindOf_eq_none bad])
  · intro u4 gives
    have given (v : Byte) (x : Setting) (h : settingOf v = some x) (hx : x.code = v) : gives v (settingValues x s) :=
      exec_answers rfl ready (get_setting h hx)
    exact ⟨given 1 .roundMs rfl rfl, given 2 .checkAt rfl rfl, given 3 .grantAt rfl rfl, given 4 .sweepAt rfl rfl,
      given 5 .reserveMs rfl rfl, given 6 .fuelEvery rfl rfl, given 7 .probeEvery rfl rfl, given 8 .settleRounds rfl rfl,
      given 9 .smoothShift rfl rfl, given 10 .feederUnits rfl rfl, given 11 .sagLevel rfl rfl,
      given 12 .restoreRounds rfl rfl, given 13 .powerGoodMs rfl rfl, given 14 .guard rfl rfl,
      given 15 .resetCause rfl rfl⟩
  · intro v bad
    exact exec_answers rfl ready (show get v s = _ by rw [get, settingOf_eq_none bad])
  · refine ⟨Settings.block_eq, fun r g => ?_, fun x d rank trailer => ?_, fun c => ⟨rfl, curveBytes_some c⟩⟩
    · rw [Record.bytes, Record.placeBytes_eq, FuelFigures.bytes_eq, ProbeFigures.bytes_eq, DefrostFigures.bytes_eq,
        DoorFigures.bytes_eq]
      simp only [← List.append_assoc]
      generalize r.place = place
      generalize r.defrost.state = defrosting
      cases place <;> cases defrosting <;> rfl
    · rw [bayBytes_eq]
      cases x.state with
      | held h => cases h <;> rfl
      | _ => rfl

end Sys2Proof.Machine

namespace Sys2Proof.Machine

/-! # The yard round: its points, in their order (R27, R28; log 26) -/

/-! ## The next point -/

/-- The place of a point among points of equal offset (log 26). -/
def Point.place : Point → Nat
  | .check => 0
  | .grant => 1
  | .sweep => 2

/-- A point that has still to come, and of those that have the one that comes first. -/
def Timer.first (t : Timer) (q : Point) : Prop :=
  t.points.get q = .outstanding ∧ ∀ p, t.points.get p = .outstanding →
    t.inForce.pointAt q < t.inForce.pointAt p ∨ (t.inForce.pointAt q = t.inForce.pointAt p ∧ q.place ≤ p.place)

section
variable {t : Timer} {limit : Nat}

theorem Timer.ahead_self {p : Point} (h : t.points.get p = .outstanding) (l : t.inForce.pointAt p < limit) :
    t.ahead limit p = some p := Timer.ahead_eq_some.2 ⟨rfl, (t.awaits_iff p).2 h, l⟩

/-- What `ahead` answers is the point asked for, and it has still to come. -/
theorem Timer.ahead_mem {p q : Point} (h : t.ahead limit p = some q) : q = p ∧ t.points.get q = .outstanding := by
  obtain ⟨rfl, awaited, _⟩ := Timer.ahead_eq_some.1 h
  exact ⟨rfl, (t.awaits_iff _).1 awaited⟩

theorem Timer.earlier_left {p : Point} {b : Option Point}
    (h : ∀ q, b = some q → t.inForce.pointAt p ≤ t.inForce.pointAt q) : t.earlier (some p) b = some p := by
  cases b with
  | none => rfl
  | some q => exact if_neg (Nat.not_lt.2 (h q rfl))

theorem Timer.earlier_right {p : Point} {a : Option Point}
    (h : ∀ q, a = some q → t.inForce.pointAt p < t.inForce.pointAt q) : t.earlier a (some p) = some p := by
  cases a with
  | none => rfl
  | some q => exact if_pos (h q rfl)

/-- The point that comes first is the next one, when it lies before the limit. -/
theorem Timer.nextPoint_of_first {p : Point} (h : t.first p) (l : t.inForce.pointAt p < limit) :
    t.nextPoint limit = some p := by
  obtain ⟨waits, least⟩ := h
  have notAfter {q r : Point} (hq : t.ahead limit r = some q) : t.inForce.pointAt p ≤ t.inForce.pointAt q := by
    obtain ⟨rfl, hw⟩ := Timer.ahead_mem hq
    exact (least q hw).elim Nat.le_of_lt fun e => e.1.le
  have before {q r : Point} (hq : t.ahead limit r = some q) (late : r.place < p.place) :
      t.inForce.pointAt p < t.inForce.pointAt q := by
    obtain ⟨rfl, hw⟩ := Timer.ahead_mem hq
    exact (least q hw).resolve_right fun e => Nat.not_le.2 late e.2
  have here := Timer.ahead_self waits l
  unfold Timer.nextPoint
  cases p with
  | check =>
    rw [here, Timer.earlier_left fun q hq => notAfter hq, Timer.earlier_left fun q hq => notAfter hq]
  | grant =>
    rw [here, Timer.earlier_right fun q hq => before hq (by decide), Timer.earlier_left fun q hq => notAfter hq]
  | sweep =>
    rw [here]
    refine Timer.earlier_right fun q hq => ?_
    rcases Timer.earlier_mem hq with hq | hq
    · exact before hq (by decide)
    · exact before hq (by decide)

end

/-! ## The points that come before a row -/

section
variable {s : State} {limit : Nat}

theorem passPoint_of_none (h : s.timer.nextPoint limit = none) : passPoint limit s = s := by rw [passPoint, h]

theorem passPoint_of_some {p : Point} (h : s.timer.nextPoint limit = some p) : passPoint limit s = takePoint p s := by
  rw [passPoint, h]

/-- With no point still to come before the limit none comes. -/
theorem passPoints_of_none (h : ∀ q, s.timer.points.get q = .outstanding → limit ≤ s.timer.inForce.pointAt q) :
    passPoints limit s = s := by
  have noneLeft : s.timer.nextPoint limit = none := Timer.nextPoint_none.2 fun q hq => h q ((Timer.awaits_iff _ q).1 hq)
  simp only [passPoints, passPoint_of_none noneLeft]

theorem takePoint_points (p q : Point) (s : State) :
    (takePoint p s).timer.points.get q = if q = p then .taken else s.timer.points.get q := by
  rw [takePoint_timer]; exact Points.get_put p q _ _

/-- The settings in force stand at a point. -/
theorem takePoint_inForce (p : Point) (s : State) : (takePoint p s).timer.inForce = s.timer.inForce := by
  rw [takePoint_timer]; rfl

theorem nextPoint_awaited {p : Point} (h : s.timer.nextPoint limit = some p) : s.timer.points.get p = .outstanding :=
  (Timer.awaits_iff _ p).1 (Timer.nextPoint_some h).1

/-- With one of the three points come already, two are all that come before a limit. -/
theorem passPoint_third {q : Point} (h : s.timer.points.get q ≠ .outstanding) :
    passPoint limit (passPoint limit (passPoint limit s)) = passPoint limit (passPoint limit s) := by
  cases first : s.timer.nextPoint limit with
  | none => simp only [passPoint_of_none first]
  | some p =>
    rw [passPoint_of_some first]
    cases second : (takePoint p s).timer.nextPoint limit with
    | none => simp only [passPoint_of_none second]
    | some r =>
      rw [passPoint_of_some second]
      refine passPoint_of_none (Timer.nextPoint_none.2 fun x hx => absurd ((Timer.awaits_iff _ x).1 hx) ?_)
      have hpq : p ≠ q := fun e => h (e ▸ nextPoint_awaited first)
      have hr := nextPoint_awaited second
      rw [takePoint_points] at hr
      have hrp : r ≠ p := fun e => by rw [if_pos e] at hr; cases hr
      have hrq : r ≠ q := fun e => h (by rw [if_neg hrp] at hr; exact e ▸ hr)
      rw [takePoint_points, takePoint_points]
      have all : x = r ∨ x = p ∨ x = q := by
        revert hpq hrp hrq; cases x <;> cases r <;> cases p <;> cases q <;> decide
      rcases all with rfl | rfl | rfl
      · rw [if_pos rfl]; nofun
      · rw [if_neg hrp.symm, if_pos rfl]; nofun
      · rw [if_neg hrq.symm, if_neg hpq.symm]; exact h

/-- The first point lies before the limit: the points that come are it and then those of the state it leaves. -/
theorem passPoints_of_first {q : Point} (h : s.timer.first q) (l : s.timer.inForce.pointAt q < limit) :
    passPoints limit s = passPoints limit (takePoint q s) := by
  have come : (takePoint q s).timer.points.get q ≠ .outstanding := by rw [takePoint_points, if_pos rfl]; nofun
  rw [passPoints, passPoint_of_some (Timer.nextPoint_of_first h l), passPoints, passPoint_third come]

end

/-! ## The rows of the points -/

/-- What the row of a point brings with it: CHECK_POINT the level at FSENSE (log 4). -/
def Point.brings (p : Point) (fsense : Nat) (s : State) : State :=
  s.modOutside fun o => { o with fsense := if p = .check then fsense else o.fsense }

section
variable {s : State} {p : Point}

theorem brings_timer (p : Point) (f : Nat) (s : State) : (p.brings f s).timer = s.timer := rfl

theorem exec_pointRow (hr : s.resetting = none) (p : Point) (f : Nat) :
    exec (p.row f) s = .next (pointRow p (p.brings f s)) := by
  cases p with
  | check => exact (whenRunning_of_none hr _ : execCheckPoint f s = _)
  | grant => exact (whenRunning_of_none hr _ : execGrantPoint s = _)
  | sweep => exact (whenRunning_of_none hr _ : execSweepStart s = _)

/-- R27: a point of the round in progress comes behind those that lie before it. -/
theorem pointRow_outstanding (h : s.timer.points.get p = .outstanding) :
    pointRow p s = takePoint p (passPoints (s.timer.inForce.pointAt p) s) := by rw [pointRow, h]

/-- R27: a point of the round in progress with none still to come before it. -/
theorem pointRow_next (h : s.timer.points.get p = .outstanding)
    (least : ∀ q, s.timer.points.get q = .outstanding → s.timer.inForce.pointAt p ≤ s.timer.inForce.pointAt q) :
    pointRow p s = takePoint p s := by rw [pointRow_outstanding h, passPoints_of_none least]

theorem exec_pointRow_next (hr : s.resetting = none) (h : s.timer.points.get p = .outstanding)
    (least : ∀ q, s.timer.points.get q = .outstanding → s.timer.inForce.pointAt p ≤ s.timer.inForce.pointAt q)
    (f : Nat) : exec (p.row f) s = .next (takePoint p (p.brings f s)) := by
  rw [exec_pointRow hr, pointRow_next (s := p.brings f s) h least]

/-- A level brought that stands already changes nothing. -/
theorem brings_fsense (p : Point) (s : State) : p.brings s.outside.fsense s = s := by
  cases p <;> rfl

theorem Timer.first.least {t : Timer} (h : t.first p) (q : Point) (hq : t.points.get q = .outstanding) :
    t.inForce.pointAt p ≤ t.inForce.pointAt q := (h.2 q hq).elim Nat.le_of_lt fun e => e.1.le

/-- The row of the point that comes first, with FSENSE as it stands. -/
theorem exec_first (hr : s.resetting = none) (h : s.timer.first p) :
    exec (p.row s.outside.fsense) s = .next (takePoint p s) := by
  rw [exec_pointRow_next hr h.1 h.least, brings_fsense]

end

/-! # SET of the round settings (O44) -/

/-- R29, R30: SET of a setting that the round timer stores. -/
theorem exec_storesRound {c : Instr} {code : Byte} {v : Word} {s : State} {x : Setting}
    {f : RoundSettings → RoundSettings} (hc : requestOf c = some (.set code v)) (ready : s.ready)
    (hx : settingOf code = some x) (stored : storeSetting x v.toNat s = some (s.modStored f)) :
    exec c s = .next ((s.modStored f).answering (.set code v) (okay (settingAnswer x.code (echoValues x (s.modStored f))))) := by
  refine exec_answers hc ready ?_
  show set code v s = _
  simp only [set, hx, setNamed, stored]

/-- Settles O44: each of the four is one stored setting, echoed as stored. -/
theorem roundSettingsAreStoredForTheNextRound : Obligations.RoundSettingsAreStoredForTheNextRound := by
  intro s v ready
  refine ⟨?_, ?_, ?_, ?_⟩
  · exact exec_storesRound (x := .roundMs) (f := RoundSettings.setInterval v.toNat) rfl ready rfl rfl
  · exact exec_storesRound (x := .checkAt) (f := fun t => { t with checkAt := t.offset v.toNat }) rfl ready rfl rfl
  · exact exec_storesRound (x := .grantAt) (f := fun t => { t with grantAt := t.offset v.toNat }) rfl ready rfl rfl
  · exact exec_storesRound (x := .sweepAt) (f := fun t => { t with sweepAt := t.offset v.toNat }) rfl ready rfl rfl

/-! # Resets (O10) -/

/-- Work that leaves a state as it is at every bay leaves it as it is. -/
theorem forBays_of_fixed {work : Bay → State → State} {s : State} (h : ∀ b, work b s = s) (bays : List Bay) :
    forBays work bays s = s := by
  induction bays with
  | nil => rfl
  | cons b rest ih => rw [forBays, List.foldl_cons, h b]; exact ih

/-- R26: an EMPTY bay that refers to no record and is not connected has no work at a round start. -/
theorem bayRound_idle {b : Bay} {s : State} (hb : s.bays[b] = .reset) : bayRound b s = s := by
  have channels : channelRound b s = s := if_neg (by rw [hb]; nofun)
  have noRecord : s.recordAt b = none := by simp only [State.recordAt, hb, BayCtl.reset, Option.bind_none]
  have defrost : defrostRound b s = s := by rw [defrostRound, noRecord]
  have held : retry b s = s := by simp only [retry, hb, BayCtl.reset]
  have unwatched : doorRound b s = s := if_neg (by rw [hb]; nofun)
  rw [bayRound, channels, defrost, held, unwatched]

/-- R32: a reset that leaves every bay as it is after one ends with the timer's round start. -/
theorem endReset_of_idle {cause : ResetCause} {s : State} (h : ∀ b : Bay, s.bays[b] = .reset) :
    endReset cause s = openRound { s with resetting := none, resetCause := cause } := by
  have idle (b : Bay) : bayRound b (openRound { s with resetting := none, resetCause := cause }) =
      openRound { s with resetting := none, resetCause := cause } := bayRound_idle (h b)
  rw [endReset, roundStart, forBays_of_fixed idle]

/-- R26, R32: round start 0 advances the timer from its reset values and powers the comparator. -/
theorem openRound_afterReset {s : State} (ht : s.timer = .reset) (hc : s.converter = .reset) (hf : s.feeder = .reset) :
    openRound s = { s with
      timer := { Timer.reset with
        number := 0, remaining := 1000,
        points := { check := .outstanding, grant := .outstanding, sweep := .outstanding } }
      feeder := { Feeder.reset with comparatorOn := true } } := by
  have timer : s.timer.advance =
      { Timer.reset with
        number := 0, remaining := 1000,
        points := { check := .outstanding, grant := .outstanding, sweep := .outstanding } } := by rw [ht]; decide
  have converter : s.converter.closeSweep = s.converter := by rw [hc]; rfl
  have comparator : (s.timer.points.check != .takenAhead) = true := by rw [ht]; decide
  simp only [openRound, State.modFeeder, State.modConverter, State.modTimer, timer, converter, comparator, hf]

/-- R32: the end of a reset is round start 0, in which no bay has work. -/
theorem exec_resetEnd_of_beginReset (cause : ResetCause) (s : State) : exec .resetEnd (beginReset cause s) =
    .next (openRound { beginReset cause s with resetting := none, resetCause := cause }) :=
  congrArg Host.Outcome.next (endReset_of_idle reset_bays)

/-- Settles O10: no bay has work at round start 0, so that a reset's end is the timer's round start. -/
theorem resetsBeginAndEnd : Obligations.ResetsBeginAndEnd := by
  intro s
  refine ⟨rfl, fun notPower => ?_, fun power => ?_, fun running => ?_, fun cause left => ?_⟩
  · show Host.Outcome.next (pinReset s) = _
    unfold pinReset
    split
    next power => exact absurd power notPower
    all_goals rfl
  · show Host.Outcome.next (pinReset s) = _
    rw [pinReset, power]
  · show Host.Outcome.next (resetEnd s) = _
    rw [resetEnd, running]
  · refine ((congrArg (exec .resetEnd) left).trans (exec_resetEnd_of_beginReset cause s)).trans ?_
    rw [openRound_afterReset rfl rfl rfl]
    rfl

end Sys2Proof.Machine

namespace Sys2Proof.Machine

/-! # The feeder check (O41) -/

/-- R130, R131: the criterion of the verdict SAG (log 19). -/
theorem Feeder.judge_eq_sag {f : Feeder} {fsense : Nat} :
    f.judge fsense = .sag ↔ f.sagLevel ≠ 0 ∧ fsense < 790 + 10 * f.sagLevel := by
  unfold Feeder.judge
  split
  next off => simp [off]
  next on =>
    split
    next low => exact ⟨fun _ => ⟨on, low⟩, fun _ => rfl⟩
    next high => exact ⟨nofun, fun h => absurd h.2 high⟩

theorem Feeder.judge_eq_clear {f : Feeder} {fsense : Nat} (h : ¬(f.sagLevel ≠ 0 ∧ fsense < 790 + 10 * f.sagLevel)) :
    f.judge fsense = .clear := by
  cases verdict : f.judge fsense with
  | sag => exact absurd (Feeder.judge_eq_sag.1 verdict) h
  | clear => rfl

/-- R131, R133: the arbiter behind a CLEAR verdict. -/
theorem Feeder.latch_restored (f : Feeder) : f.restored.latch .clear = { f with
    verdict := .clear, comparatorOn := false
    shed := if f.shed ≠ 0 ∧ f.restoreRounds ≤ f.restoreCounter + 1 then f.shed - 1 else f.shed
    restoreCounter := if f.shed = 0 then f.restoreCounter
      else if f.restoreRounds ≤ f.restoreCounter + 1 then 0 else f.restoreCounter + 1 } := by
  unfold Feeder.restored Feeder.latch
  by_cases whole : f.shed = 0
  · simp only [whole, if_true, ne_eq, not_true, false_and, if_false]
  · by_cases due : f.restoreRounds ≤ f.restoreCounter + 1 <;>
      simp only [whole, due, if_true, if_false, ne_eq, not_false_eq_true, and_true, and_false]

section
variable {s : State}

/-- R131, R133: a check point whose verdict is CLEAR. -/
theorem checkPoint_clear (h : s.feeder.judge s.outside.fsense = .clear) : checkPoint s = { s with
    feeder := s.feeder.restored.latch .clear
    notices := if s.feeder.verdict = .sag then s.notices.cease s.timer.number .feederSag else s.notices } := by
  simp only [checkPoint, h, clearVerdict]
  cases s.feeder.verdict <;> rfl

/-- R132: what a SAG verdict sheds before it is reported. -/
def shedNewest (s : State) : State :=
  match s.feeder.grants.getLast? with
  | some g => heatingToWaiting g.bay (s.modFeeder Feeder.sagged)
  | none => s.modFeeder Feeder.sagged

/-- R131, R132, R142: a check point whose verdict is SAG. -/
theorem checkPoint_sag (h : s.feeder.judge s.outside.fsense = .sag) : checkPoint s = { shedNewest s with
    feeder := (shedNewest s).feeder.latch .sag
    notices := if s.feeder.verdict = .clear then
        (shedNewest s).notices.present s.timer.number .feederSag none (some (.units (shedNewest s).feeder.shed))
      else (shedNewest s).notices } := by
  simp only [checkPoint, h, sagVerdict]
  cases s.feeder.verdict <;> rfl

/-- R132: with no grant nothing is shed. -/
theorem shedNewest_nil (h : s.feeder.grants = []) :
    shedNewest s = { s with feeder := { s.feeder with restoreCounter := 0 } } := by
  simp only [shedNewest, h, List.getLast?_nil, State.modFeeder, Feeder.sagged]

/-- R120: a HEATING record returns to WAITING. -/
theorem heatingToWaiting_of_heating {b : Bay} {i : SlotIx} {r : Record} {c : DefrostClass} (hi : s.bays[b].ref = some i)
    (hr : s.table[i] = some r) (heating : r.defrost.state = .heating c) : heatingToWaiting b s =
      (s.putSlot i (some { r with defrost := { r.defrost with state := .waiting c } })).setHeat b false := by
  have parked : s.recordAt b = some r := State.recordAt_eq_some.2 ⟨i, hi, hr⟩
  simp only [heatingToWaiting, parked, heating, State.modParked_of_ref hi, State.modSlot, hr]
  rfl

/-- R120, R132: the newest grant is shed and its record returns to WAITING. -/
theorem shedNewest_append {older : List Grant} {g : Grant} {i : SlotIx} {r : Record} {c : DefrostClass}
    (h : s.feeder.grants = older ++ [g]) (hi : s.bays[g.bay].ref = some i) (hr : s.table[i] = some r)
    (heating : r.defrost.state = .heating c) : shedNewest s =
      { s.putSlot i (some { r with defrost := { r.defrost with state := .waiting c } }) with
        heat := s.heat.set g.bay.val false
        feeder := { s.feeder with
          grants := older, shed := min s.feeder.units (s.feeder.shed + g.load), restoreCounter := 0 } } := by
  have newest : s.feeder.grants.getLast? = some g := by rw [h, List.getLast?_concat]
  have rest : s.feeder.grants.dropLast = older := by rw [h, List.dropLast_concat]
  simp only [shedNewest, newest]
  rw [heatingToWaiting_of_heating (s := s.modFeeder Feeder.sagged) hi hr heating]
  simp only [State.modFeeder, Feeder.sagged, newest, rest]
  rfl

end

/-- Settles O41: the row is the check point at its instant, and its verdict decides. -/
theorem checkPointShedsAndRestores : Obligations.CheckPointShedsAndRestores := by
  intro s fsense running waits least u sag f
  have row : exec (.checkPoint fsense) s = .next (checkPoint u) :=
    exec_pointRow_next (p := .check) running waits least fsense
  rw [row]
  refine ⟨fun clear => ?_, fun low empty => ?_, fun older g i r c low hg hi hr heating => ?_⟩
  · rw [checkPoint_clear (s := u) (Feeder.judge_eq_clear clear), Feeder.latch_restored]
  · rw [checkPoint_sag (s := u) (Feeder.judge_eq_sag.2 low), shedNewest_nil (s := u) empty]
    rfl
  · rw [checkPoint_sag (s := u) (Feeder.judge_eq_sag.2 low), shedNewest_append (s := u) hg hi hr heating]
    rfl

/-! # The grant walk (O42) -/

/-! ## A list put in an order -/

/-- By `ahead` any two different elements of which `P` holds stand in the order `R`. -/
structure Decides {α : Type} (ahead : α → α → Bool) (P : α → Prop) (R : α → α → Prop) : Prop where
  trans : ∀ {x y z : α}, R x y → R y z → R x z
  of_ahead : ∀ {x y : α}, P x → P y → ahead x y = true → R x y
  of_not_ahead : ∀ {x y : α}, P x → P y → x ≠ y → ahead x y = false → R y x

section
variable {α : Type} {ahead : α → α → Bool} {P : α → Prop} {R : α → α → Prop}

/-- An element inserted into an ordered list leaves it ordered. -/
theorem insertBy_pairwise (h : Decides ahead P R) {a : α} {l : List α} (ha : P a) (hl : ∀ x ∈ l, P x) (new : a ∉ l)
    (ordered : l.Pairwise R) : (insertBy ahead a l).Pairwise R := by
  induction l with
  | nil => exact List.pairwise_singleton R a
  | cons b rest ih =>
    obtain ⟨first, others⟩ := List.pairwise_cons.1 ordered
    have hb : P b := hl b List.mem_cons_self
    unfold insertBy
    split
    next before =>
      have ab : R a b := h.of_ahead ha hb before
      refine List.pairwise_cons.2 ⟨fun x hx => ?_, ordered⟩
      rcases List.mem_cons.1 hx with rfl | later
      · exact ab
      · exact h.trans ab (first x later)
    next behind =>
      have ba : R b a :=
        h.of_not_ahead ha hb (fun e => new (e ▸ List.mem_cons_self)) (Bool.eq_false_iff.2 behind)
      refine List.pairwise_cons.2 ⟨fun x hx => ?_, ih (fun x hx => hl x (List.mem_cons_of_mem b hx))
        (fun hx => new (List.mem_cons_of_mem b hx)) others⟩
      rcases List.mem_cons.1 ((insertBy_perm ahead a rest).mem_iff.1 hx) with rfl | later
      · exact ba
      · exact first x later

/-- A list without repetition put in order is ordered. -/
theorem sortBy_pairwise (h : Decides ahead P R) {l : List α} (hl : ∀ x ∈ l, P x) (distinct : l.Nodup) :
    (sortBy ahead l).Pairwise R := by
  have kept (ordered : List α) (ho : ∀ x ∈ ordered, P x) (apart : (ordered ++ l).Nodup) (hr : ordered.Pairwise R) :
      (l.foldl (fun ordered a => insertBy ahead a ordered) ordered).Pairwise R := by
    induction l generalizing ordered with
    | nil => exact hr
    | cons a rest ih =>
      have ha : P a := hl a List.mem_cons_self
      have moved : (insertBy ahead a ordered ++ rest).Perm (ordered ++ a :: rest) :=
        ((insertBy_perm ahead a ordered).append_right rest).trans List.perm_middle.symm
      have new : a ∉ ordered := fun ha => (List.nodup_append.1 apart).2.2 a ha a List.mem_cons_self rfl
      refine ih (fun x hx => hl x (List.mem_cons_of_mem a hx)) (List.nodup_cons.1 distinct).2 _ (fun x hx => ?_)
        (moved.nodup_iff.2 apart) (insertBy_pairwise h ha ho new hr)
      rcases List.mem_cons.1 ((insertBy_perm ahead a ordered).mem_iff.1 hx) with rfl | older
      · exact ha
      · exact ho x older
  exact kept [] nofun distinct .nil

end

theorem allBays_nodup : allBays.Nodup := by decide
theorem mem_allBays (b : Bay) : b ∈ allBays := by revert b; decide

/-! ## The requests in their order (R134, R136) -/

theorem requestAt_eq_some {s : State} {b : Bay} {c : DefrostClass} :
    s.requestAt b = some c ↔ ∃ r, s.recordAt b = some r ∧ r.defrost.state = .waiting c := by
  unfold State.requestAt
  cases s.recordAt b with
  | none => simp
  | some r => cases hd : r.defrost.state <;> simp [hd]

theorem mem_requestOrder {s : State} {b : Bay} : b ∈ requestOrder s ↔ ∃ c, s.requestAt b = some c := by
  rw [requestOrder, (sortBy_perm _ _).mem_iff, List.mem_filter, Option.isSome_iff_exists]
  exact and_iff_right (mem_allBays b)

/-- R136: URGENT before NORMAL, then the higher rank. -/
def servedBefore (s : State) (x y : Bay) : Prop :=
  (s.requestAt x = some .urgent ∧ s.requestAt y = some .normal)
    ∨ (s.requestAt x = s.requestAt y ∧ s.feeder.rank[y] < s.feeder.rank[x])

/-- R136: of two requests of one class the ranks decide, which no two bays share (R138). -/
theorem requestAhead_decides {s : State} (h : RankInv s) :
    Decides (requestAhead s) (fun b => ∃ c, s.requestAt b = some c) (servedBefore s) where
  trans := by
    rintro x y z (⟨hx, hy⟩ | ⟨exy, rxy⟩) (⟨hy', hz⟩ | ⟨eyz, ryz⟩)
    · rw [hy] at hy'; cases hy'
    · exact .inl ⟨hx, eyz ▸ hy⟩
    · exact .inl ⟨exy ▸ hy', hz⟩
    · exact .inr ⟨exy.trans eyz, Nat.lt_trans ryz rxy⟩
  of_ahead := by
    rintro x y ⟨c, hx⟩ ⟨d, hy⟩ ahead
    simp only [requestAhead, hx, hy] at ahead
    cases c <;> cases d <;> simp only [decide_eq_true_eq, reduceCtorEq] at ahead
    · exact .inr ⟨hx.trans hy.symm, ahead⟩
    · exact .inl ⟨hx, hy⟩
    · exact .inr ⟨hx.trans hy.symm, ahead⟩
  of_not_ahead := by
    rintro x y ⟨c, hx⟩ ⟨d, hy⟩ differ behind
    have apart : s.feeder.rank[x] ≠ s.feeder.rank[y] := fun e => differ (h.2 x y e)
    simp only [requestAhead, hx, hy] at behind
    cases c <;> cases d <;> simp only [decide_eq_false_iff_not, reduceCtorEq] at behind
    · exact .inr ⟨hy.trans hx.symm, by omega⟩
    · exact .inl ⟨hy, hx⟩
    · exact .inr ⟨hy.trans hx.symm, by omega⟩

theorem requestOrder_pairwise {s : State} (h : RankInv s) : (requestOrder s).Pairwise (servedBefore s) :=
  sortBy_pairwise (requestAhead_decides h)
    (fun _ hx => Option.isSome_iff_exists.1 (List.mem_filter.1 hx).2) (allBays_nodup.filter _)

/-! ## One request of the walk (R135, R137) -/

section
variable {s : State} {b : Bay}

theorem eligible_iff : eligible s b = true ↔
    s.bays[b].state = .serving ∧ s.bays[b].powerGood = true ∧ s.doors[b].figures.state = .shut := by
  simp only [eligible, Bool.and_eq_true, beq_iff_eq, and_assoc]

/-- R135, R137: the walk at a bay with a request. -/
theorem grantWalk_request {rest : List Bay} {r : Record} {c : DefrostClass} (parked : s.recordAt b = some r)
    (waiting : r.defrost.state = .waiting c) : grantWalk (b :: rest) s =
      if !eligible s b then grantWalk rest s
      else if r.settings.heaterLoad ≤ s.feeder.free then grantWalk rest (grantAt b c r.settings.heaterLoad s)
      else s := by
  have request : s.requestAt b = some c := requestAt_eq_some.2 ⟨r, parked, waiting⟩
  rw [grantWalk, parked, request]

/-- R116, R137, R138: a grant to a record in its slot. -/
theorem grantAt_eq {i : SlotIx} {r : Record} (hi : s.bays[b].ref = some i) (hr : s.table[i] = some r)
    (c : DefrostClass) (load : Nat) : grantAt b c load s =
      { s.putSlot i (some { r with defrost := { r.defrost with state := .heating c, heatRounds := 0 } }) with
        heat := s.heat.set b.val true
        feeder := s.feeder.grant b load s.timer.number } := by
  rw [grantAt, State.modParked_of_ref (s := s.modFeeder _) hi]
  simp only [State.modSlot, State.modFeeder_table, hr]
  rfl

end

/-- Settles O42: the row is the walk at its instant, over the requests put in order, one request after another. -/
theorem grantWalkServesByClassAndRank : Obligations.GrantWalkServesByClassAndRank := by
  intro s running
  refine ⟨fun waits least => exec_pointRow_next (p := .grant) running waits least 0, fun b => ?_, requestOrder_pairwise,
    rfl, fun b rest i r c hi hr waiting => ?_⟩
  · rw [mem_requestOrder]
    constructor
    · rintro ⟨c, request⟩
      obtain ⟨r, parked, waiting⟩ := requestAt_eq_some.1 request
      exact ⟨r, c, parked, waiting⟩
    · rintro ⟨r, c, parked, waiting⟩
      exact ⟨c, requestAt_eq_some.2 ⟨r, parked, waiting⟩⟩
  · intro fits served
    have walk := grantWalk_request (rest := rest) (State.recordAt_eq_some.2 ⟨i, hi, hr⟩) waiting
    refine ⟨fun skip => walk.trans ?_, fun serve large => walk.trans ?_, fun serve small => walk.trans ?_⟩
    · have away : eligible s b = false := Bool.eq_false_iff.2 fun e => skip (eligible_iff.1 e)
      rw [away]; rfl
    · rw [eligible_iff.2 serve]; exact if_neg large
    · rw [eligible_iff.2 serve, grantAt_eq hi hr]; exact if_pos small

end Sys2Proof.Machine

namespace Sys2Proof.Machine

/-! # The sweep list and the spot list (O35) -/

/-! ## A sweep start (R80 to R82) -/

namespace Converter

section
variable {c : Converter} {now : Round} {remaining : Nat} {heating : List Bay}

/-- R81: a sweep with nothing in its list is closed. -/
theorem sweepStart_nil (h : c.sweepList now heating = []) :
    c.sweepStart now remaining heating = { c with sweep := none } := by
  simp only [sweepStart, h, List.isEmpty_nil, if_true, closeSweep]

/-- R82: with a conversion in flight the list waits. -/
theorem sweepStart_inFlight (h : c.sweepList now heating ≠ []) (busy : c.stage ≠ .idle) :
    c.sweepStart now remaining heating = { c with sweep := some (c.sweepList now heating) } := by
  have listed : (c.sweepList now heating).isEmpty = false := by simpa using h
  cases hs : c.stage with
  | idle => exact absurd hs busy
  | _ => simp only [sweepStart, listed, Bool.false_eq_true, if_false, hs]

/-- R81: with no conversion in flight the head is tested. -/
theorem sweepStart_idle {ch : Channel} {rest : List Channel} (h : c.sweepList now heating = ch :: rest)
    (idle : c.stage = .idle) : c.sweepStart now remaining heating =
      if remaining < c.reserveMs then { c with sweep := none }
      else { c.modChannel ch (fun x => { x with due := none }) with
        stage := .select ch, sweep := some rest, spot := c.spot.erase ch, settle := 4000 } := by
  simp only [sweepStart, h, List.isEmpty_cons, Bool.false_eq_true, if_false, idle, takeNext]
  split
  · rw [← idle]; rfl
  · rfl

/-! ## The due marks in order (R80, tier 3) -/

/-- R80, tier 3: the older due round, of one round PROBE before FUEL, of one kind the lower bay. -/
def dueSooner (now : Round) (c : Converter) (x y : Channel) : Prop :=
  ∃ dx dy : Round, (c.channel x).due = some dx ∧ (c.channel y).due = some dy
    ∧ ((now - dy).toNat < (now - dx).toNat
      ∨ (dx = dy ∧ ((x.kind = .probe ∧ y.kind = .fuel) ∨ (x.kind = y.kind ∧ x.bay < y.bay))))

/-- R34: two round numbers of one age are one. -/
theorem age_injective {now a b : Round} (h : age now a = age now b) : a = b := by
  simp only [age] at h
  bv_omega

/-- R80: of two channels of one due round PROBE stands before FUEL, and of one kind the lower bay. -/
def kindAndBayBefore (x y : Channel) : Bool :=
  match x.kind, y.kind with
  | .probe, .fuel => true
  | .fuel, .probe => false
  | .probe, .probe => x.bay.val < y.bay.val
  | .fuel, .fuel => x.bay.val < y.bay.val

theorem kindAndBayBefore_iff {x y : Channel} : kindAndBayBefore x y = true ↔
    (x.kind = .probe ∧ y.kind = .fuel) ∨ (x.kind = y.kind ∧ x.bay < y.bay) := by
  unfold kindAndBayBefore
  cases x.kind <;> cases y.kind <;> simp

/-- Of two different channels one stands before the other. -/
theorem kindAndBayBefore_total {x y : Channel} (h : x ≠ y) (behind : kindAndBayBefore x y = false) :
    kindAndBayBefore y x = true := by
  obtain ⟨a, k⟩ := x
  obtain ⟨b, l⟩ := y
  have bays : k = l → a ≠ b := fun e f => h (by rw [e, f])
  cases k <;> cases l <;> simp only [kindAndBayBefore, decide_eq_false_iff_not, decide_eq_true_eq, reduceCtorEq] at behind ⊢
  all_goals
    have := Fin.val_ne_of_ne (bays rfl)
    omega

theorem dueBefore_eq {x y : Channel} {dx dy : Round} (hx : (c.channel x).due = some dx) (hy : (c.channel y).due = some dy) :
    c.dueBefore now x y = if age now dx = age now dy then kindAndBayBefore x y else age now dy < age now dx := by
  simp only [dueBefore, hx, hy]
  rfl

/-- R80, tier 3: of two marks the ages decide, then the kinds, then the bays. -/
theorem dueBefore_decides (now : Round) (c : Converter) :
    Decides (c.dueBefore now) (fun x => ∃ d, (c.channel x).due = some d) (c.dueSooner now) where
  trans := by
    rintro x y z ⟨dx, dy, hx, hy, xy⟩ ⟨dy', dz, hy', hz, yz⟩
    obtain rfl : dy = dy' := Option.some.inj (hy.symm.trans hy')
    refine ⟨dx, dz, hx, hz, ?_⟩
    rcases xy with older | ⟨rfl, xy⟩
    · rcases yz with older' | ⟨rfl, -⟩
      · exact .inl (Nat.lt_trans older' older)
      · exact .inl older
    · rcases yz with older' | ⟨rfl, yz⟩
      · exact .inl older'
      · refine .inr ⟨rfl, ?_⟩
        rcases xy with ⟨px, fy⟩ | ⟨kxy, bxy⟩
        · rcases yz with ⟨py, -⟩ | ⟨kyz, -⟩
          · rw [fy] at py; cases py
          · exact .inl ⟨px, kyz ▸ fy⟩
        · rcases yz with ⟨py, fz⟩ | ⟨kyz, byz⟩
          · exact .inl ⟨kxy.trans py, fz⟩
          · exact .inr ⟨kxy.trans kyz, bxy.trans byz⟩
  of_ahead := by
    rintro x y ⟨dx, hx⟩ ⟨dy, hy⟩ ahead
    refine ⟨dx, dy, hx, hy, ?_⟩
    rw [dueBefore_eq hx hy] at ahead
    split at ahead
    next same => exact .inr ⟨age_injective same, kindAndBayBefore_iff.1 ahead⟩
    next => exact .inl (of_decide_eq_true ahead)
  of_not_ahead := by
    rintro x y ⟨dx, hx⟩ ⟨dy, hy⟩ differ behind
    refine ⟨dy, dx, hy, hx, ?_⟩
    rw [dueBefore_eq hx hy] at behind
    split at behind
    next same => exact .inr ⟨(age_injective same).symm, kindAndBayBefore_iff.1 (kindAndBayBefore_total differ behind)⟩
    next apart =>
      have notOlder := of_decide_eq_false behind
      exact .inl (by simp only [age] at apart notOlder; omega)

theorem channels_nodup : (channelsOf .probe ++ channelsOf .fuel).Nodup := by decide

theorem mem_channels (x : Channel) : x ∈ channelsOf .probe ++ channelsOf .fuel := by
  obtain ⟨b, k⟩ := x
  have here : ({ bay := b, kind := k } : Channel) ∈ channelsOf k := List.mem_map_of_mem (mem_allBays b)
  cases k with
  | fuel => exact List.mem_append_right _ here
  | probe => exact List.mem_append_left _ here

theorem mem_dueList {x : Channel} : x ∈ dueList now c ↔ (c.channel x).due.isSome = true := by
  rw [dueList, (sortBy_perm _ _).mem_iff, List.mem_filter]
  exact and_iff_right (mem_channels x)

theorem dueList_pairwise (now : Round) (c : Converter) : (dueList now c).Pairwise (c.dueSooner now) :=
  sortBy_pairwise (dueBefore_decides now c)
    (fun _ hx => Option.isSome_iff_exists.1 (List.mem_filter.1 hx).2) (channels_nodup.filter _)

end

end Converter

/-! ## SPOT (R79) -/

theorem channelKindOf_eq_none {v : Byte} (h : 2 ≤ v.toNat) : channelKindOf v = none := by
  unfold channelKindOf
  split
  next zero => omega
  next one => omega
  next => rfl

theorem spot_malformed {c v : Byte} (s : State) (h : 16 ≤ c.toNat ∨ 2 ≤ v.toNat) : spot c v s = (s, refusal .badValue) := by
  rw [spot, onBay]
  cases hb : bayOf c with
  | none => rfl
  | some b =>
    have noKind : 2 ≤ v.toNat := h.resolve_left fun wide => by rw [bayOf_eq_none wide] at hb; cases hb
    simp only [channelKindOf_eq_none noKind]

/-- R79: SPOT at a bay, for a kind. -/
theorem spot_named {c v : Byte} {b : Bay} {k : ChannelKind} (s : State) (hc : c.toNat = b.val) (hk : channelKindOf v = some k) :
    spot c v s =
      if s.bays[b].state ≠ .serving then (s, refusal .wrongState)
      else if { bay := b, kind := k } ∈ s.converter.spot then (s, okay [])
      else if s.converter.spot.length < 8 then (s.modConverter (Converter.appendSpot { bay := b, kind := k }), okay [])
      else (s, refusal .busy) := by
  rw [spot, onBay, bayOf_eq hc]
  simp only [hk, List.contains_iff_mem]
  rfl

/-- Settles O35: the row is the sweep start at its instant; SPOT answers by its checks in order. -/
theorem sweepAndSpotListsAreBuilt : Obligations.SweepAndSpotListsAreBuilt := by
  refine ⟨fun s running waits least => ?_, fun s c v ready => ⟨fun bad => ?_, fun b k hc hk => ?_⟩⟩
  · intro now u due list
    have row : exec .sweepStart s = .next (u.modConverter (Converter.sweepStart now u.timer.remaining
        (allBays.filter s.heatingAt))) := exec_pointRow_next (p := .sweep) running waits least 0
    rw [row]
    refine ⟨fun nothing => ?_, fun something busy => ?_, fun ch rest head idle late => ?_,
      fun ch rest head idle early => ?_, fun _ => Converter.mem_dueList, Converter.dueList_pairwise now s.converter⟩
    · rw [State.modConverter, Converter.sweepStart_nil nothing]
    · rw [State.modConverter, Converter.sweepStart_inFlight something busy]; rfl
    · rw [State.modConverter, Converter.sweepStart_idle head idle, if_pos late]
    · rw [State.modConverter, Converter.sweepStart_idle head idle, if_neg (Nat.not_lt.2 early)]
  · exact exec_answers rfl ready (spot_malformed s bad)
  · intro ch
    have run := spot_named (s := s) hc hk
    refine ⟨fun away => ?_, fun here listed => ?_, fun here unlisted full => ?_, fun here unlisted place => ?_⟩
    all_goals refine exec_answers rfl ready (run.trans ?_)
    · exact if_pos away
    · rw [if_neg (not_not.2 here), if_pos listed]
    · rw [if_neg (not_not.2 here), if_neg unlisted, if_neg (Nat.not_lt.2 full)]
    · rw [if_neg (not_not.2 here), if_neg unlisted, if_pos place]; rfl

end Sys2Proof.Machine

namespace Sys2Proof.Machine

/-! # The line sample tick (O29) -/

/-! ## The order of the bays (log 10) -/

theorem eraseDups_of_nodup {l : List Bay} (h : l.Nodup) : l.eraseDups = l := by
  induction l with
  | nil => rfl
  | cons a rest ih =>
    obtain ⟨new, distinct⟩ := List.nodup_cons.1 h
    have others : rest.filter (fun b => !b == a) = rest :=
      List.filter_eq_self.2 fun b hb => by
        have : b ≠ a := fun e => new (e ▸ hb)
        simpa using this
    rw [List.eraseDups_cons, others, ih distinct]

/-- An order that names no bay twice is completed to every bay, each once. -/
theorem completeOrder_perm {order : List Bay} (h : order.Nodup) : (completeOrder order).Perm allBays := by
  have distinct : (completeOrder order).Nodup := by
    rw [completeOrder, eraseDups_of_nodup h]
    refine List.nodup_append.2 ⟨h, allBays_nodup.filter _, fun a named b unnamed e => ?_⟩
    have : b ∉ order := by simpa using (List.mem_filter.1 unnamed).2
    exact this (e ▸ named)
  refine (List.perm_ext_iff_of_nodup distinct allBays_nodup).2 fun b => ⟨fun _ => mem_allBays b, fun _ => ?_⟩
  by_cases named : b ∈ order
  · exact List.mem_append_left _ (List.mem_eraseDups.2 named)
  · exact List.mem_append_right _ (List.mem_filter.2 ⟨mem_allBays b, by simpa using named⟩)

/-! ## A sample of one line (R144) -/

/-- R144: two samples of a level stand in the run. -/
def Line.isThird (l : Line) (level : Bool) : Prop := l.candidate = some level ∧ l.run = 2

/-- R144: a sample of a level that is not yet accepted. -/
def Line.counted (l : Line) (level : Bool) : Line :=
  { candidate := some level, run := if l.candidate = some level then l.run + 1 else 1 }

/-- R144: what a sample of a line leads to: the acceptance it completes, or the line after it. -/
def Line.step {α : Type} (l : Line) (accepted : Option Bool) (level : Bool) (accept : α) (count : Line → α) : α :=
  if l.accepts accepted level then accept else count (l.sample accepted level)

section
variable {l : Line} {accepted : Option Bool} {level : Bool} {α : Type} (accept : α) (count : Line → α)

/-- R144: a sample of the accepted level leaves no run. -/
theorem Line.step_same (h : accepted = some level) : l.step accepted level accept count = count .none := by
  have kept : l.accepts accepted level = false := by simp [Line.accepts, h]
  have noRun : l.sample accepted level = .none := if_pos (.inl h)
  rw [Line.step, kept, noRun]; rfl

/-- R144: short of the third sample the run grows. -/
theorem Line.step_counted (h : accepted ≠ some level) (early : ¬l.isThird level) (run : l.run ≤ 2) :
    l.step accepted level accept count = count (l.counted level) := by
  have short : l.runWith level < Config.lineSamples := by
    unfold Line.runWith Config.lineSamples
    split
    next candidate =>
      have : l.run ≠ 2 := fun two => early ⟨candidate, two⟩
      omega
    next => omega
  have kept : l.accepts accepted level = false := by simp [Line.accepts, Nat.not_le.2 short]
  have counts : l.sample accepted level = l.counted level := if_neg fun e => e.elim h (Nat.not_le.2 short)
  rw [Line.step, kept, counts]; rfl

/-- R144: the third sample is an acceptance. -/
theorem Line.step_third (h : accepted ≠ some level) (third : l.isThird level) :
    l.step accepted level accept count = accept := by
  obtain ⟨candidate, run⟩ := third
  exact if_pos (by simp [Line.accepts, h, Line.runWith, candidate, run, Config.lineSamples])

end

/-! ## The states that levels equal (Table 46) -/

theorem DoorState.level_eq_some {x : DoorState} {level : Bool} :
    x.level = some level ↔ x = if level then .shut else .opened := by
  cases x <;> cases level <;> simp [DoorState.level]

theorem RunState.level_eq_some {x : RunState} {level : Bool} :
    x.level = some level ↔ x = if level then .running else .stopped := by
  cases x <;> cases level <;> simp [RunState.level]

theorem OvcState.level_eq_some {x : OvcState} {level : Bool} :
    some x.level = some level ↔ x = if level then .clear else .tripped := by
  cases x <;> cases level <;> simp [OvcState.level]

/-! ## The samples of a watched bay -/

section
variable {b : Bay} {level : Bool} {s : State}

theorem doorSample_eq (b : Bay) (level : Bool) (s : State) : doorSample b level s =
    s.doors[b].doorLine.step s.doors[b].figures.state.level level (acceptDoor b level s)
      fun l => s.modDoor b fun d => { d with doorLine := l } := rfl

theorem runSample_eq (b : Bay) (level : Bool) (s : State) : runSample b level s =
    s.doors[b].runLine.step s.doors[b].run.level level (acceptRun b level s)
      fun l => s.modDoor b fun d => { d with runLine := l } := rfl

theorem ovcSample_eq (b : Bay) (level : Bool) (s : State) : ovcSample b level s =
    s.doors[b].ovcLine.step (some s.doors[b].ovc.level) level (acceptOvc b level s)
      fun l => s.modDoor b fun d => { d with ovcLine := l } := rfl

/-- DOOR_ACCEPTANCE of a level that a watched bay has not accepted (log 9). -/
theorem exec_doorAcceptance (hr : s.resetting = none) (hc : s.bays[b].connected = true)
    (new : s.doors[b].figures.state.level ≠ some level) : exec (.doorAcceptance b level) s =
      .next (acceptDoor b level (s.modLines b fun x => { x with door := level })) :=
  (whenRunning_of_none hr (doorAcceptance b level)).trans (congrArg _ (if_pos ⟨hc, new⟩))

/-- RUN_ACCEPTANCE of a level that a watched bay has not accepted (log 9). -/
theorem exec_runAcceptance (hr : s.resetting = none) (hc : s.bays[b].connected = true)
    (new : s.doors[b].run.level ≠ some level) : exec (.runAcceptance b level) s =
      .next (acceptRun b level (s.modLines b fun x => { x with run := level })) :=
  (whenRunning_of_none hr (runAcceptance b level)).trans (congrArg _ (if_pos ⟨hc, new⟩))

/-- OVERCURRENT_ACCEPTANCE of a level that a watched bay has not accepted (log 9). -/
theorem exec_overcurrentAcceptance (hr : s.resetting = none) (hc : s.bays[b].connected = true)
    (new : some s.doors[b].ovc.level ≠ some level) : exec (.overcurrentAcceptance b level) s =
      .next (acceptOvc b level (s.modLines b fun x => { x with ovc := level })) :=
  (whenRunning_of_none hr (overcurrentAcceptance b level)).trans
    (congrArg _ (if_pos ⟨hc, fun e => new (congrArg some e)⟩))

/-- R37: the fifth sample that differs is a connect or a disconnect. -/
theorem senseSample_fifth (differs : level ≠ s.bays[b].connected) (four : s.bays[b].differing = 4) :
    senseSample b level s = if level then connect b s else disconnect b s := by
  rw [senseSample, if_neg differs, if_pos (by rw [four]; decide)]

theorem exec_sense (hr : s.resetting = none) (differs : level ≠ s.bays[b].connected) :
    exec (if level then .connect b else .disconnect b) s =
      .next (if level then connect b (s.modLines b fun x => { x with sense := level })
        else disconnect b (s.modLines b fun x => { x with sense := level })) := by
  cases level with
  | false => exact exec_disconnect hr (by simpa using differs)
  | true => exact exec_connect hr (by simpa using differs)

end

/-- Settles O29: a tick is the samples of its bays, and each line's samples run to an acceptance. -/
theorem lineSampleTickCountsSamples : Obligations.LineSampleTickCountsSamples := by
  intro samples order s hr
  refine ⟨whenRunning_of_none hr (lineSampleTick samples order), completeOrder_perm, fun b => ?_, fun b level => ?_⟩
  · refine ⟨fun last => ?_, fun first hc => ?_, fun first hc => ?_⟩
    · exact if_neg (by rw [last]; nofun)
    · exact (if_pos first).trans (if_pos hc)
    · exact (if_pos first).trans (if_neg (by rw [hc]; nofun))
  intro d third counted fresh x stands
  refine ⟨⟨fun same => if_pos same, fun differs few => ?_, fun differs four => ?_⟩, ?_, ?_, ?_⟩
  · rw [senseSample, if_neg differs, if_neg (by simp only [Config.senseSamples]; omega)]
  · rw [exec_sense hr differs]
    exact congrArg _ (senseSample_fifth (s := stands { x with sense := level }) differs four)
  · refine ⟨fun same => ?_, fun new early run => ?_, fun new late hc => ?_⟩
    · rw [doorSample_eq, Line.step_same _ _ (DoorState.level_eq_some.2 same)]; rfl
    · rw [doorSample_eq, Line.step_counted _ _ (mt DoorState.level_eq_some.1 new) early run]; rfl
    · have unaccepted := mt DoorState.level_eq_some.1 new
      rw [exec_doorAcceptance hr hc unaccepted, doorSample_eq]
      exact congrArg _ (Line.step_third _ _ unaccepted late)
  · refine ⟨fun same => ?_, fun new early run => ?_, fun new late hc => ?_⟩
    · rw [runSample_eq, Line.step_same _ _ (RunState.level_eq_some.2 same)]; rfl
    · rw [runSample_eq, Line.step_counted _ _ (mt RunState.level_eq_some.1 new) early run]; rfl
    · have unaccepted := mt RunState.level_eq_some.1 new
      rw [exec_runAcceptance hr hc unaccepted, runSample_eq]
      exact congrArg _ (Line.step_third _ _ unaccepted late)
  · refine ⟨fun same => ?_, fun new early run => ?_, fun new late hc => ?_⟩
    · rw [ovcSample_eq, Line.step_same _ _ (OvcState.level_eq_some.2 same)]; rfl
    · rw [ovcSample_eq, Line.step_counted _ _ (mt OvcState.level_eq_some.1 new) early run]; rfl
    · have unaccepted := mt OvcState.level_eq_some.1 new
      rw [exec_overcurrentAcceptance hr hc unaccepted, ovcSample_eq]
      exact congrArg _ (Line.step_third _ _ unaccepted late)

end Sys2Proof.Machine

namespace Sys2Proof.Machine

/-! # The round start (O51) -/

/-! ## Points before a row, and points before the round start (log 26) -/

section
variable {s : State}

theorem takePoint_resetting (p : Point) (s : State) : (takePoint p s).resetting = s.resetting := by
  rw [takePoint, pointWork_frame]; rfl

theorem modParked_modOutside (b : Bay) (g : Record → Record) (f : Outside → Outside) (s : State) :
    (s.modOutside f).modParked b g = (s.modParked b g).modOutside f := by
  simp only [State.modParked, State.modOutside_bays]
  cases s.bays[b].ref <;> rfl

/-- R131: of the points the check point alone reads the level at FSENSE. -/
theorem grantWalk_modOutside (f : Outside → Outside) (l : List Bay) (s : State) :
    grantWalk l (s.modOutside f) = (grantWalk l s).modOutside f := by
  induction l generalizing s with
  | nil => rfl
  | cons b rest ih =>
    have records : (s.modOutside f).recordAt b = s.recordAt b := rfl
    have requests : (s.modOutside f).requestAt b = s.requestAt b := rfl
    have eligibility : eligible (s.modOutside f) b = eligible s b := rfl
    have granted (c : DefrostClass) (load : Nat) :
        grantAt b c load (s.modOutside f) = (grantAt b c load s).modOutside f :=
      congrArg (State.setHeat b true) (modParked_modOutside b _ f (s.modFeeder (Feeder.grant b load s.timer.number)))
    unfold grantWalk
    rw [records, requests, eligibility]
    split
    · split
      · exact ih s
      · rw [State.modOutside_feeder]
        split
        · rw [granted, ih]
        · rfl
    · exact ih s

/-- A row's point of another kind does its work whatever the level the row brings. -/
theorem takePoint_brings {p q : Point} (h : q ≠ p) (f : Nat) (s : State) :
    takePoint q (p.brings f s) = p.brings f (takePoint q s) := by
  cases p with
  | grant => rfl
  | sweep => rfl
  | check =>
    cases q with
    | check => exact absurd rfl h
    | grant =>
      exact grantWalk_modOutside (fun o => { o with fsense := f }) _ (s.modTimer (Timer.atPoint .grant))
    | sweep => rfl

/-- A point that lies before the point of a row comes first. -/
theorem exec_pointRow_after (hr : s.resetting = none) {p q : Point} (f : Nat) (first : s.timer.first q)
    (waits : s.timer.points.get p = .outstanding) (before : s.timer.inForce.pointAt q < s.timer.inForce.pointAt p) :
    exec (p.row f) s = exec (p.row f) (takePoint q s) := by
  have differ : p ≠ q := fun e => by rw [e] at before; exact Nat.lt_irrefl _ before
  have still : (takePoint q s).timer.points.get p = .outstanding := by rw [takePoint_points, if_neg differ, waits]
  rw [exec_pointRow hr, exec_pointRow ((takePoint_resetting q s).trans hr),
    pointRow_outstanding (s := p.brings f s) waits, pointRow_outstanding (s := p.brings f (takePoint q s)) still,
    brings_timer, brings_timer, takePoint_inForce, passPoints_of_first (s := p.brings f s) first before,
    takePoint_brings differ.symm]

/-- R27: a point that has come comes again as the next round's, when its stored offset is 0 (log 26). -/
theorem exec_pointRow_ahead (hr : s.resetting = none) {p : Point} (f : Nat) (come : s.timer.points.get p = .taken)
    (zero : s.timer.stored.pointAt p = 0) (noneLeft : ∀ q, s.timer.points.get q ≠ .outstanding) :
    exec (p.row f) s = .next (pointWork p ((p.brings f s).modTimer (Timer.atPointAhead p))) := by
  have passed : passPoints s.timer.inForce.roundMs (p.brings f s) = p.brings f s :=
    passPoints_of_none fun q hq => absurd hq (noneLeft q)
  rw [exec_pointRow hr, pointRow, brings_timer, come]
  simp only [zero, if_true, passed]

theorem exec_roundStart (hr : s.resetting = none) (order : List Bay) : exec (.roundStart order) s =
    .next (roundStart order (passPoints s.timer.inForce.roundMs s)) := whenRunning_of_none hr (roundStartRow order)

/-- A point of the ending round comes before the round start. -/
theorem exec_roundStart_after (hr : s.resetting = none) (order : List Bay) {q : Point} (first : s.timer.first q)
    (before : s.timer.inForce.pointAt q < s.timer.inForce.roundMs) :
    exec (.roundStart order) s = exec (.roundStart order) (takePoint q s) := by
  rw [exec_roundStart hr, exec_roundStart ((takePoint_resetting q s).trans hr), passPoints_of_first first before,
    takePoint_inForce]

end

/-! ## The round opened (R26, R82, R130) -/

theorem PointState.renew_eq (x : PointState) : x.renew = if decide (x = .takenAhead) then .taken else .outstanding := by
  cases x <;> rfl

theorem PointState.bne_takenAhead (x : PointState) : (x != .takenAhead) = !decide (x = .takenAhead) := by
  cases x <;> rfl

/-! ## The channels of a bay (R75) -/

/-- R75: one channel at a round start; a count of 0 stands. -/
theorem Converter.countDown_eq (now : Round) (period : Nat) (x : ChannelCtl) : Converter.countDown now period x =
    if x.countdown = 1 then { countdown := period, due := some (x.due.getD now) }
    else { x with countdown := x.countdown - 1 } := by
  unfold Converter.countDown Converter.expire
  by_cases zero : x.countdown = 0
  · rw [if_pos zero, if_neg (by omega), zero, Nat.zero_sub, ← zero]
  · rw [if_neg zero]

/-- R75: the two channels of a SERVING bay count down, each with its own period. -/
theorem channelRound_serving {s : State} {b : Bay} (h : s.bays[b].state = .serving) : channelRound b s =
    { s with converter := s.converter.modBayChannels b fun x =>
      { fuel := Converter.countDown s.timer.number s.converter.fuelEvery x.fuel
        probe := Converter.countDown s.timer.number s.converter.probeEvery x.probe } } := by
  rw [channelRound, if_pos h]
  simp only [State.modConverter, Converter.countDownChannel, Converter.modChannel, Converter.modBayChannels,
    vector_set_same, vector_set_set]
  rfl

/-- Settles O51: the round is opened behind the points of the ending one, and each bay's work follows. -/
theorem roundStartOpensTheRound : Obligations.RoundStartOpensTheRound := by
  intro order s hr ahead fresh rank waits x first
  have isFirst {q : Point} (h : first q) : s.timer.first q := h
  refine ⟨fun noneLeft => ?_, fun q hq before t ht => ?_, fun p q f hq hp before t ht => ?_, fun p f hp least => ?_,
    fun p f come zero noneLeft => ?_, completeOrder_perm, fun b => ⟨rfl, fun away => if_neg away, fun serving => ?_⟩⟩
  · rw [exec_roundStart hr, passPoints_of_none fun q hq => absurd hq (noneLeft q)]
    simp only [roundStart, forBays, openRound, State.modTimer, State.modConverter, State.modFeeder, Timer.advance,
      PointState.renew_eq, PointState.bne_takenAhead]
    rfl
  · rw [exec_first hr (isFirst hq)] at ht
    cases ht
    exact exec_roundStart_after hr order (isFirst hq) before
  · rw [exec_first hr (isFirst hq)] at ht
    cases ht
    exact exec_pointRow_after hr f (isFirst hq) hp before
  · exact exec_pointRow_next hr hp least f
  · exact exec_pointRow_ahead hr f come zero noneLeft
  · intro down
    rw [channelRound_serving serving]
    simp only [Converter.countDown_eq]
    rfl

end Sys2Proof.Machine

namespace Sys2Proof.Machine

/-! # The idle step (O2) -/

/-! ## A microsecond of the time base -/

/-- R59: the slot number of a read in phase BITS is that of the slot its instant lies in. -/
theorem Reader.tick_eq (now : Nat) (r : Reader) : r.tick now = { r with state := match r.state with
    | .attempt n start (.bits began _ count shift bytes) =>
      .attempt n start (.bits began (min 39 ((r.instant now - began) / 250)) count shift bytes)
    | other => other } := by
  obtain ⟨state, queue, ahead⟩ := r
  cases state with
  | idle => rfl
  | spacing n start => rfl
  | attempt n start phase => cases phase <;> rfl

/-- R43: a power-good wait at a microsecond, which may end a whole millisecond. -/
def BayCtl.microsecond (whole : Bool) (x : BayCtl) : BayCtl :=
  { x with wait := if whole then x.wait.map (· - 1) else x.wait }

theorem bays_between_milliseconds (bays : Vector BayCtl 16) : bays.map (BayCtl.microsecond false) = bays :=
  Vector.map_id' bays

/-- R28, R43: round remaining and the waits move at each whole millisecond alone. -/
theorem microsecond_eq (s : State) : microsecond s = { s with
    timer := { s.timer with
      timeUs := s.timer.timeUs + 1
      remaining := if decide ((s.timer.timeUs + 1) % 1000 = 0) then s.timer.remaining - 1 else s.timer.remaining }
    bays := s.bays.map (BayCtl.microsecond (decide ((s.timer.timeUs + 1) % 1000 = 0)))
    converter := s.converter.run s.outside 4
    reader := s.reader.tick (s.timer.timeUs + 1) } := by
  unfold microsecond
  by_cases whole : (s.timer.timeUs + 1) % 1000 = 0
  · simp only [whole, if_true, decide_true]; rfl
  · simp only [whole, if_false, decide_false, bays_between_milliseconds]; rfl

/-- Out of a reset the time base runs (R35). -/
theorem idleTick_running {s : State} (h : s.resetting = none) : idleTick s = microsecond s := by rw [idleTick, h]

/-! ## The events of the round timer (R26 to R28) -/

/-- A point of the round whose instant the time base has come to. -/
def Timer.comes (t : Timer) (p : Point) : Prop :=
  t.points.get p = .outstanding ∧ t.inForce.pointAt p ≤ t.inForce.roundMs - t.remaining

section
variable {s : State}

theorem roundEvent_of_first {p : Point} (first : s.timer.first p) (comes : s.timer.comes p) :
    roundEvent s = some (p.row s.outside.fsense) := by
  rw [roundEvent, Timer.nextPoint_of_first first (Nat.lt_succ_of_le comes.2)]

theorem roundEvent_of_noPoint (h : ∀ p, ¬s.timer.comes p) :
    roundEvent s = if s.timer.remaining = 0 then some (.roundStart []) else none := by
  have noPoint : s.timer.nextPoint (s.timer.inForce.roundMs - s.timer.remaining + 1) = none :=
    Timer.nextPoint_none.2 fun q hq => Nat.succ_le_of_lt (Nat.lt_of_not_le fun l => h q ⟨(Timer.awaits_iff _ q).1 hq, l⟩)
  rw [roundEvent, noPoint]

theorem roundEvent_eq_none : roundEvent s = none ↔ ¬((∃ p, s.timer.comes p) ∨ s.timer.remaining = 0) := by
  by_cases points : ∃ p, s.timer.comes p
  · obtain ⟨p, waits, l⟩ := points
    have next : s.timer.nextPoint (s.timer.inForce.roundMs - s.timer.remaining + 1) ≠ none := fun e =>
      absurd (Timer.nextPoint_none.1 e p ((Timer.awaits_iff _ p).2 waits)) (Nat.not_le.2 (Nat.lt_succ_of_le l))
    obtain ⟨q, hq⟩ := Option.ne_none_iff_exists'.1 next
    rw [roundEvent, hq]
    exact ⟨nofun, fun h => absurd (.inl ⟨p, waits, l⟩) h⟩
  · rw [roundEvent_of_noPoint fun p hp => points ⟨p, hp⟩]
    simp [points]

end

/-! ## The events of the converter (R68 to R70) -/

/-- R68 to R70: whether the stage has come to its end. -/
def Converter.stageDue (c : Converter) : Bool :=
  match c.stage with
  | .idle => false
  | .select _ => c.settle = 0
  | .reference _ tb cy => cy = 0 ∨ 1048575 ≤ tb
  | .sensor _ _ tb cy => tb = 0 ∨ 1048575 ≤ cy

/-- The row of a stage's end, with what stands outside as it stands. -/
def Converter.stageRow (o : Outside) (c : Converter) : Instr :=
  match c.stage with
  | .reference ch _ _ => .referenceEnd (o.referenceRate ch)
  | .sensor ch _ _ _ => .sensorEnd (o.input ch)
  | _ => .selectEnd

/-- R69, R70: cycles that have still to come take a tick or more. -/
theorem ticksFor_eq_zero {x : Oscillation} {phase cycles : Nat} (hp : phase < x.den) :
    x.ticksFor phase cycles = 0 ↔ cycles = 0 := by
  by_cases noCycles : cycles = 0
  · simp [Oscillation.ticksFor, noCycles]
  by_cases still : x.num = 0
  · simp [Oscillation.ticksFor, noCycles, still, Config.counterSpan]
  · have ticks := ticksFor_spec still hp noCycles 0
    have noCycle : x.cyclesIn phase 0 = 0 := by rw [Oscillation.cyclesIn, Nat.zero_mul, Nat.add_zero, Nat.div_eq_of_lt hp]
    rw [noCycle] at ticks
    omega

theorem referenceTicks_eq_zero {c : Converter} {x : Oscillation} {tb cy : Nat} (hp : c.phase < x.den)
    (hc : cy ≤ 1048575) : c.referenceTicks x tb cy = 0 ↔ cy = 0 ∨ 1048575 ≤ tb := by
  have ticks := ticksFor_eq_zero (x := x) (cycles := 1048576 - cy) hp
  simp only [Converter.referenceTicks, Config.counterSpan, Config.counterLimit]
  split
  next wrapped => simp [wrapped]
  next => omega

theorem sensorTicks_eq_zero {c : Converter} {x : Oscillation} {tb cy : Nat} (hp : c.phase < x.den) :
    c.sensorTicks x tb cy = 0 ↔ tb = 0 ∨ 1048575 ≤ cy := by
  have ticks := ticksFor_eq_zero (x := x) (cycles := 1048575 - cy) hp
  simp only [Converter.sensorTicks, Config.counterLimit]
  omega

/-- R68 to R70: a stage within its ranges ends where its counters say. -/
theorem converterEvent_eq {o : Outside} {c : Converter} (ok : c.stage.ok) (phase : c.phaseOk o) :
    converterEvent o c = if c.stageDue then some (c.stageRow o) else none := by
  unfold converterEvent Converter.stageDue Converter.stageRow
  unfold Converter.phaseOk at phase
  cases hs : c.stage with
  | idle => rfl
  | select ch => simp only [decide_eq_true_eq]
  | reference ch tb cy =>
    rw [hs] at ok phase
    simp only [decide_eq_true_eq, referenceTicks_eq_zero phase ok.2.1]
  | sensor ch t tb cy =>
    rw [hs] at phase
    simp only [decide_eq_true_eq, sensorTicks_eq_zero phase]

/-! ## The events of the reader and the waits -/

/-- R58, R59, R62, R63: the event of a reader in a state whose read stands at an instant. -/
def ReaderState.event (read : Nat) (high : Bool) : ReaderState → Option Instr
  | .idle => none
  | .attempt _ start .wake => if start + 500 ≤ read then some .wakeEnd else none
  | .attempt _ start .presence =>
    if start + 600 ≤ read ∧ read ≤ start + 900 ∧ high = false then some .presenceSeen
    else if start + 900 ≤ read then some .presenceWindowClose else none
  | .attempt _ _ (.bits began _ count _ bytes) =>
    if bytes.length < 5 then
      if began + 250 * (8 * bytes.length + count.toNat) + 60 ≤ read then some (.bitSlotSample high) else none
    else if began + 10000 ≤ read then some .attemptJudged else none
  | .spacing _ start => if start + 50000 ≤ read then some .spacingEnd else none

theorem Reader.due_eq (now : Nat) (high : Bool) (r : Reader) : r.due now high = r.state.event (r.instant now) high := by
  cases state : r.state with
  | idle => exact Reader.due_idle state now high
  | spacing n start => exact Reader.due_spacing state now high
  | attempt n start phase =>
    cases phase with
    | wake => exact Reader.due_wake state now high
    | presence => exact Reader.due_presence state now high
    | bits began slot count shift bytes => exact Reader.due_bits state now high

/-- R58, R59: the level of the head's line. -/
theorem headLine_eq (s : State) :
    headLine s = match s.reader.queue with | b :: _ => s.outside.tags[b] | [] => true := by
  unfold headLine
  cases s.reader.queue <;> rfl

theorem allBays_ascending : allBays.Pairwise (· < ·) := by decide

section
variable {s : State}

theorem waitEvent_eq_none : waitEvent s = none ↔ ∀ b : Bay, s.bays[b].wait ≠ some 0 := by
  simp only [waitEvent, Option.map_eq_none_iff, List.find?_eq_none, beq_iff_eq]
  exact ⟨fun h b => h b (mem_allBays b), fun h b _ => h b⟩

/-- R43: of the waits that have run out the lowest bay's ends. -/
theorem waitEvent_of_lowest {b : Bay} (out : s.bays[b].wait = some 0) (lower : ∀ c : Bay, c < b → s.bays[c].wait ≠ some 0) :
    waitEvent s = some (.powerGoodWaitEnd b) := by
  have found : allBays.find? (fun b => s.bays[b].wait == some 0) = some b := by
    obtain ⟨before, after, parts⟩ := List.append_of_mem (mem_allBays b)
    refine List.find?_eq_some_iff_append.2 ⟨beq_iff_eq.2 out, before, after, parts, fun c hc => ?_⟩
    have ascending := allBays_ascending
    rw [parts] at ascending
    have below : c < b := (List.pairwise_append.1 ascending).2.2 c hc b List.mem_cons_self
    simpa using lower c below
  rw [waitEvent, found]; rfl

end

/-! ## What is due -/

section
variable {s : State}

theorem dueEvent_resetting {cause : ResetCause} (h : s.resetting = some cause) : dueEvent s = none := by
  rw [dueEvent, h]

theorem dueEvent_running (h : s.resetting = none) : dueEvent s =
    (roundEvent s).or ((converterEvent s.outside s.converter).or
      ((readerEvent s).or ((waitEvent s).or (tickEvent s)))) := by rw [dueEvent, h]

end

/-- Settles O2: the first of the blocks' events that is due, each found where the statement says. -/
theorem idleStepRunsTheTimeBase : Obligations.IdleStepRunsTheTimeBase := by
  intro s empty now whole order x waits come roundDue stageDue read high reader
  refine ⟨fun cause hr => ⟨dueEvent_resetting hr, ?_⟩, fun c due => step_of_due empty due, fun hr quiet => ?_,
    fun hr ok phase => ?_⟩
  · rw [step_of_nil empty (dueEvent_resetting hr), idleTick, hr]
  · have passed : s.reader.instant (s.timer.timeUs + 1) = read + 1 := Nat.add_right_comm _ _ _
    rw [step_of_nil empty quiet, idleTick_running hr, microsecond_eq, Reader.tick_eq, passed]
    rfl
  have hReader : readerEvent s = reader := by rw [readerEvent, Reader.due_eq, headLine_eq]; rfl
  have hStage : converterEvent s.outside s.converter = if stageDue then some (s.converter.stageRow s.outside) else none :=
    converterEvent_eq ok phase
  have hDue := dueEvent_running hr
  rw [hStage, hReader] at hDue
  have hRound (quiet : ¬roundDue) : roundEvent s = none := roundEvent_eq_none.2 quiet
  have hNoStage (quiet : ¬stageDue = true) :
      (if stageDue then some (s.converter.stageRow s.outside) else none) = none := if_neg quiet
  refine ⟨?_, fun p comes first => ?_, fun noPoint zero => ?_, fun round stage => ?_, fun round stage brings => ?_,
    fun round stage read b out lower => ?_, fun round stage read noWait tick => ?_⟩
  · have stageNone : (if stageDue then some (s.converter.stageRow s.outside) else none) = none ↔ stageDue = false := by
      cases stageDue <;> simp
    rw [hDue]
    simp only [Option.or_eq_none_iff, roundEvent_eq_none, stageNone, waitEvent_eq_none, tickEvent_eq_none]
    rfl
  · rw [hDue, roundEvent_of_first ⟨comes.1, first⟩ comes]; rfl
  · rw [hDue, roundEvent_of_noPoint noPoint, if_pos zero]; rfl
  · rw [hDue, hRound round, if_pos stage]; rfl
  · obtain ⟨c, hc⟩ := Option.isSome_iff_exists.1 brings
    rw [hDue, hRound round, stage, hc]; rfl
  · rw [hDue, hRound round, stage, read, waitEvent_of_lowest out lower]; rfl
  · rw [hDue, hRound round, stage, read, waitEvent_eq_none.2 noWait, tickEvent, if_pos tick]; rfl

end Sys2Proof.Machine

namespace Sys2Proof.Machine

/-! # BAY_DISABLE, BAY_ENABLE and CLEAR_FAULT (O23, O24) -/

section
variable {c : Byte} {b : Bay} {s : State}

/-- A bay command with a number outside 0 to 15. -/
theorem onBay_malformed (work : Bay → State × Answer) (s : State) (h : 16 ≤ c.toNat) :
    onBay c work s = (s, refusal .badValue) := by
  rw [onBay, bayOf_eq_none h]

/-- A bay command with the number of a bay. -/
theorem onBay_named (work : Bay → State × Answer) (s : State) (h : c.toNat = b.val) : onBay c work s = work b := by
  rw [onBay, bayOf_eq h]

end

/-! ## Leaving SERVING (R49, R120, R139) -/

section
variable {b : Bay} {s : State}

/-- R120: with no record HEATING at the bay nothing returns to WAITING. -/
theorem heatingToWaiting_of_not_heating (h : s.heatingAt b = false) : heatingToWaiting b s = s := by
  unfold heatingToWaiting
  cases hr : s.recordAt b with
  | none => rfl
  | some r =>
    cases hd : r.defrost.state with
    | heating g => simp [State.heatingAt, hr, hd] at h
    | _ => simp only [hd]

/-- R14: the condition of a HELD bay ceases. -/
theorem ceaseHeld_of_held {h : Held} (hb : s.bays[b].state = .held h) : ceaseHeld b s = ceaseAt h.kind b s := by
  rw [ceaseHeld, hb]

/-! ## The effects, bay state by bay state (R48, R49, R51) -/

theorem disable_disabled (h : s.bays[b].state = .disabled) : disable b s = s := by rw [disable, h]

theorem disable_empty (h : s.bays[b].state = .empty) : disable b s = s.modBay b (BayCtl.become .disabled) := by
  rw [disable, h]

theorem disable_identifying (h : s.bays[b].state = .identifying) :
    disable b s = readerLeaves b (s.modBay b (BayCtl.become .disabled)) := by
  rw [disable, h]

theorem disable_held {x : Held} (h : s.bays[b].state = .held x) :
    disable b s = (ceaseAt x.kind b s).modBay b (BayCtl.become .disabled) := by
  rw [disable, h, ← ceaseHeld_of_held h]

theorem disable_serving (h : s.bays[b].state = .serving) :
    disable b s = defrostLeavesServing b (converterLeaves b (s.modBay b (BayCtl.become .disabled))) := by
  rw [disable, h]

theorem disable_fault (h : s.bays[b].state = .fault) :
    disable b s = (ceaseAt .overcurrent b s).modBay b (BayCtl.become .disabled) := by
  rw [disable, h]

theorem enable_of_not_disabled (h : s.bays[b].state ≠ .disabled) : enable b s = s := by
  unfold enable
  split
  next disabled => exact absurd disabled h
  all_goals rfl

theorem enable_parked {i : SlotIx} (h : s.bays[b].state = .disabled) (hi : s.bays[b].ref = some i) :
    enable b s = enterServing b s := by
  rw [enable, h, hi]

theorem enable_connected (h : s.bays[b].state = .disabled) (hi : s.bays[b].ref = none)
    (hc : s.bays[b].connected = true) : enable b s = identify b s := by
  simp only [enable, h, hi, hc, if_true]

theorem enable_unconnected (h : s.bays[b].state = .disabled) (hi : s.bays[b].ref = none)
    (hc : s.bays[b].connected = false) : enable b s = s.modBay b (BayCtl.become .empty) := by
  simp only [enable, h, hi, hc, Bool.false_eq_true, if_false]

end

/-- Settles O23: BAY_DISABLE by the state of its bay, and the end of a defrost by whether the record is HEATING. -/
theorem bayDisableEndsTheBaysWork : Obligations.BayDisableEndsTheBaysWork := by
  refine ⟨fun s c ready => ⟨fun bad => exec_answers rfl ready (onBay_malformed _ s bad), ?_⟩,
    fun s b => ⟨fun i r g hi hr heating => ?_, fun cold => ?_⟩⟩
  · intro b hc off answers
    have disabled {t : State} (h : disable b s = t) : answers t :=
      exec_answers rfl ready ((onBay_named _ s hc).trans (by rw [h]))
    exact ⟨fun h => disabled (disable_disabled h), fun h => disabled (disable_empty h),
      fun h => disabled (disable_identifying h), fun x h => disabled (disable_held h),
      fun h => disabled (disable_serving h), fun h => disabled (disable_fault h)⟩
  · rw [defrostLeavesServing, heatingToWaiting_of_heating hi hr heating]; rfl
  · rw [defrostLeavesServing, heatingToWaiting_of_not_heating cold]; rfl

/-- R48: CLEAR_FAULT at a bay of the row. -/
theorem runRequest_clearFault {c : Byte} {b : Bay} (s : State) (hc : c.toNat = b.val) :
    runRequest (.clearFault c) s =
      if s.bays[b].state = .fault then
        match s.doors[b].ovc with
        | .clear => (clearFault b s, okay [])
        | .tripped => (s, refusal .busy)
      else (s, refusal .wrongState) := onBay_named _ s hc

/-- Settles O24: BAY_ENABLE by the ways out of DISABLED, CLEAR_FAULT by its checks in order. -/
theorem enableAndClearFaultReturnTheBay : Obligations.EnableAndClearFaultReturnTheBay := by
  refine ⟨fun s c ready => ⟨fun bad => exec_answers rfl ready (onBay_malformed _ s bad), ?_⟩,
    fun s c ready => ⟨fun bad => exec_answers rfl ready (onBay_malformed _ s bad), fun b hc => ?_⟩⟩
  · intro b hc answers become
    have enabled {t : State} (h : enable b s = t) : answers t :=
      exec_answers rfl ready ((onBay_named _ s hc).trans (by rw [h]))
    exact ⟨fun h => enabled (enable_of_not_disabled h),
      fun i h hi clear => enabled ((enable_parked h hi).trans (enterServing_clear clear)),
      fun i h hi tripped => enabled ((enable_parked h hi).trans (enterServing_tripped tripped)),
      fun h hi hc => enabled (enable_connected h hi hc), fun h hi hc => enabled (enable_unconnected h hi hc)⟩
  · have run := runRequest_clearFault s hc
    refine ⟨fun h => exec_answers rfl ready (run.trans (if_neg h)), fun h tripped => exec_answers rfl ready ?_,
      fun h clear => exec_answers rfl ready ?_⟩
    · rw [run, if_pos h, tripped]
    · rw [run, if_pos h, clear]
      exact congrArg (·, okay []) (enterServing_clear (s := ceaseAt .overcurrent b s) clear)

/-! # Run acceptances, trips and the end of a wait (O26) -/

/-- R43: the end of a wait that runs. -/
theorem powerGoodWaitEnd_running {b : Bay} {s : State} {w : Nat} (h : s.bays[b].wait = some w) :
    powerGoodWaitEnd b s = s.modBay b fun x => { x with powerGood := true, wait := none } := by
  rw [powerGoodWaitEnd, h]

/-- Settles O26: each row by its acceptance; a trip is the acceptance of TRIPPED at a SERVING bay. -/
theorem runTripAndWaitEvents : Obligations.RunTripAndWaitEvents := by
  intro s b hr stands
  refine ⟨fun active hc new => ?_, ?_, fun w hw => ?_⟩
  · exact exec_runAcceptance hr hc fun e => new (RunState.level_eq_some.1 e)
  · intro closed hc new accepted
    have row := exec_overcurrentAcceptance hr hc fun e => new (OvcState.level_eq_some.1 e)
    refine ⟨fun noTrip => row.trans (congrArg _ (if_neg ?_)),
      fun isOpen serving => row.trans (congrArg _ (if_pos ?_))⟩
    · rintro ⟨isOpen, serving⟩
      exact noTrip.elim (by simp [isOpen]) fun away => away serving
    · exact ⟨isOpen, serving⟩
  · exact (whenRunning_of_none hr _).trans (congrArg _ (powerGoodWaitEnd_running hw))

/-! # SET of the other settings (O45) -/

section
variable {c : Instr} {code : Byte} {v : Word} {s t : State} {x : Setting}

/-- R173: SET of a setting stored, which echoes the one value stored. -/
theorem exec_stores {n : Nat} (hc : requestOf c = some (.set code v)) (ready : s.ready) (hx : settingOf code = some x)
    (hcode : x.code = code) (stored : storeSetting x v.toNat s = some t) (echo : echoValues x t = [n]) :
    exec c s = .next (t.answering (.set code v) (okay ([code, 1] ++ wordNat n))) := by
  refine exec_answers hc ready ?_
  show set code v s = _
  simp only [set, hx, setNamed, stored, echo, hcode, settingAnswer, List.flatMap_singleton]
  rfl

/-- R173: SET of a setting refused. -/
theorem exec_refuses (hc : requestOf c = some (.set code v)) (ready : s.ready) (hx : settingOf code = some x)
    (refused : storeSetting x v.toNat s = none) :
    exec c s = .next (s.answering (.set code v) (refusal .badValue)) := by
  refine exec_answers hc ready ?_
  show set code v s = _
  simp only [set, hx, setNamed, refused]

end

/-- A value clamped to a range that begins at 0. -/
theorem clamp_zero (hi v : Nat) : clamp 0 hi v = min hi v := by rw [clamp, Nat.zero_max]

/-- R150, Table 57: a code above 2 names no GUARD. -/
theorem guardOf_eq_none {v : Nat} (h : 2 < v) : guardOf v = none := by
  unfold guardOf
  split
  case h_4 => rfl
  all_goals omega

/-- R150: SET of GUARD stores what its code names. -/
theorem storeGuard {v : Nat} {g : Guard} (s : State) (h : guardOf v = some g) :
    storeSetting .guard v s = some { s with guard := g } := by
  simp only [storeSetting, h, Option.map_some]

/-- Settles O45: each setting by what it stores and echoes. -/
theorem settingsAreClampedStoredAndEchoed : Obligations.SettingsAreClampedStoredAndEchoed := by
  intro s v ready sets reserve period settle good
  refine ⟨?_, ?_, ?_, ?_, ?_, ?_, ?_, ?_, fun h => ?_, fun h => ?_, fun h => ?_, fun h => ?_, ?_⟩
  · exact exec_stores (x := .reserveMs) rfl ready rfl rfl rfl rfl
  · exact exec_stores (x := .fuelEvery) rfl ready rfl rfl rfl rfl
  · exact exec_stores (x := .probeEvery) rfl ready rfl rfl rfl rfl
  · exact exec_stores (x := .settleRounds) rfl ready rfl rfl (by rw [storeSetting, clamp_zero]; rfl) rfl
  · exact exec_stores (x := .smoothShift) rfl ready rfl rfl (by rw [storeSetting, clamp_zero]) rfl
  · exact exec_stores (x := .sagLevel) rfl ready rfl rfl (by rw [storeSetting, clamp_zero]; rfl) rfl
  · exact exec_stores (x := .restoreRounds) rfl ready rfl rfl rfl rfl
  · exact exec_stores (x := .powerGoodMs) rfl ready rfl rfl rfl rfl
  · exact exec_stores (x := .guard) rfl ready rfl rfl (storeGuard s (by rw [h]; rfl)) rfl
  · exact exec_stores (x := .guard) rfl ready rfl rfl (storeGuard s (by rw [h]; rfl)) rfl
  · exact exec_stores (x := .guard) rfl ready rfl rfl (storeGuard s (by rw [h]; rfl)) rfl
  · exact exec_refuses (x := .guard) rfl ready rfl (by rw [storeSetting, guardOf_eq_none h]; rfl)
  · exact exec_refuses (x := .resetCause) rfl ready rfl rfl

end Sys2Proof.Machine

namespace Sys2Proof.Machine

/-! # A property kept by each row's work

`KeptByWork` speaks of properties that all quiet work keeps. A property of what the registry does not know of, such as
the power of a bay, is carried through a step here: the host link, the points of a round, the round start and the line
sample tick are made of a few parts each, and every other row is work of its own. -/

/-- A property that the parts of every row keep. -/
structure KeptByRows (P : State → Prop) : Prop where
  queue : ∀ s waiting, P s → P { s with pending := waiting }
  link : ∀ f, Keeps P (State.modLink f)
  timer : ∀ f, Keeps P (State.modTimer f)
  outside : ∀ f, Keeps P (State.modOutside f)
  converter : ∀ f, Keeps P (State.modConverter f)
  request : ∀ r, Keeps P fun s => (runRequest r s).1
  beginReset : ∀ cause s, P (beginReset cause s)
  resetOver : ∀ cause s, P s → P { s with resetting := none, resetCause := cause }
  openRound : Keeps P openRound
  bayRound : ∀ b, Keeps P (bayRound b)
  pointWork : ∀ p, Keeps P (pointWork p)
  intervalExpiry : ∀ b, Keeps P (intervalExpiryAt b)
  expiryInWaiting : ∀ b, Keeps P (expiryInWaitingAt b)
  endByMaximum : ∀ b, Keeps P (endByMaximumAt b)
  dripEnd : ∀ b, Keeps P (dripEndAt b)
  deliverReading : ∀ ch x, Keeps P (deliverReading ch x)
  wakeEnd : Keeps P wakeEnd
  presenceSeen : Keeps P presenceSeen
  presenceWindowClose : Keeps P presenceWindowClose
  attemptJudged : Keeps P attemptJudged
  spacingEnd : Keeps P spacingEnd
  bitSlotSample : ∀ high, Keeps P (bitSlotSample high)
  senseAcceptance : ∀ b level, Keeps P (senseAcceptance b level)
  doorAcceptance : ∀ b level, Keeps P (doorAcceptance b level)
  runAcceptance : ∀ b level, Keeps P (runAcceptance b level)
  overcurrentAcceptance : ∀ b level, Keeps P (overcurrentAcceptance b level)
  powerGoodWaitEnd : ∀ b, Keeps P (powerGoodWaitEnd b)
  bayTick : ∀ samples b, Keeps P (bayTick samples b)
  microsecond : Keeps P microsecond

namespace KeptByRows

variable {P : State → Prop} (h : KeptByRows P)
include h

/-! ## The host link -/

theorem takeRequest (r : Request) : Keeps P (takeRequest r) := fun s hs => h.link _ _ (h.request r s hs)

theorem takePayload (payload : List Byte) : Keeps P (takePayload payload) := by
  intro s hs
  unfold Machine.takePayload; split
  · exact h.takeRequest _ s hs
  · exact h.link _ s hs
  · exact h.link _ s hs

theorem meetFrame {taken : State → State} (ht : Keeps P taken) (payload : List Byte) :
    Keeps P (meetFrame payload taken) := by
  intro s hs
  unfold Machine.meetFrame; split
  · exact ht s hs
  · split
    · exact h.link _ s hs
    · exact hs

theorem hostRequest (r : Request) : Keeps P (hostRequest r) := h.meetFrame (h.takeRequest r) _

theorem completeFrame (payload : List Byte) (check : Half) : Keeps P (completeFrame payload check) := by
  intro s hs
  unfold Machine.completeFrame; split
  · exact h.meetFrame (h.takePayload payload) payload s hs
  · exact hs

theorem bodyByte (expected : Nat) (stored : List Byte) : Keeps P (bodyByte expected stored) := by
  intro s hs
  unfold Machine.bodyByte; split
  · exact h.link _ s hs
  · exact h.completeFrame _ _ _ (h.link _ s hs)

theorem receiveByte (v : Byte) : Keeps P (receiveByte v) := by
  intro s hs
  unfold Machine.receiveByte; split
  · split
    · exact h.link _ s hs
    · exact hs
  · split <;> exact h.link _ s hs
  · exact h.bodyByte _ _ s hs

theorem frameArrives (payload : List Byte) (check : Half) : Keeps P (frameArrives payload check) := by
  intro s hs
  unfold Machine.frameArrives; split
  · exact h.completeFrame _ _ _ (h.link _ s hs)
  · exact h.link _ s hs

theorem answerSent : Keeps P answerSent := by
  intro s hs
  unfold Machine.answerSent; split
  · exact hs
  · split
    · exact h.beginReset _ s
    · split
      · exact h.link _ s hs
      · exact h.takePayload _ _ (h.link _ s hs)

theorem commandReset : Keeps P commandReset := by
  intro s hs
  unfold Machine.commandReset; split
  · exact hs
  · split
    · exact h.beginReset _ s
    · exact hs

/-! ## The round -/

theorem roundStart (order : List Bay) : Keeps P (roundStart order) := fun s hs =>
  Keeps.forBays h.bayRound _ _ (h.openRound s hs)

theorem takePoint (p : Point) : Keeps P (takePoint p) := fun s hs => h.pointWork p _ (h.timer _ s hs)

theorem passPoint (limit : Nat) : Keeps P (passPoint limit) := by
  intro s hs
  unfold Machine.passPoint; split
  · exact h.takePoint _ s hs
  · exact hs

theorem passPoints (limit : Nat) : Keeps P (passPoints limit) := fun s hs =>
  h.passPoint limit _ (h.passPoint limit _ (h.passPoint limit s hs))

theorem pointRow (p : Point) : Keeps P (pointRow p) := by
  intro s hs
  unfold Machine.pointRow; split
  · exact h.takePoint p _ (h.passPoints _ s hs)
  · split
    · exact h.pointWork p _ (h.timer _ _ (h.passPoints _ s hs))
    · exact hs
  · exact hs

theorem roundStartRow (order : List Bay) : Keeps P (roundStartRow order) := fun s hs =>
  h.roundStart order _ (h.passPoints _ s hs)

theorem channelCountdownExpiry (b : Bay) (k : ChannelKind) : Keeps P (channelCountdownExpiry b k) := by
  intro s hs
  unfold Machine.channelCountdownExpiry; split
  · exact h.converter _ s hs
  · exact hs

/-! ## Conversions, resets and the tick -/

theorem conversionDone (ch : Channel) (x : Reading) : Keeps P (conversionDone ch x) := fun s hs =>
  h.converter _ _ (h.deliverReading ch x s hs)

theorem referenceEnd (rate : Nat) : Keeps P (referenceEnd rate) := by
  intro s hs
  unfold Machine.referenceEnd; split
  next ch _ _ _ =>
    have brought := h.outside (Outside.putReference ch rate) s hs
    simp only
    split
    · split
      · exact h.conversionDone _ _ _ brought
      · exact h.converter _ _ brought
    all_goals exact brought
  all_goals exact hs

theorem sensorEnd (x : ChannelInput) : Keeps P (sensorEnd x) := by
  intro s hs
  unfold Machine.sensorEnd; split
  next ch _ _ _ _ =>
    have brought := h.outside (Outside.putInput ch x) s hs
    simp only
    split
    · exact h.conversionDone _ _ _ brought
    all_goals exact brought
  all_goals exact hs

theorem pinReset : Keeps P pinReset := by
  intro s hs
  unfold Machine.pinReset; split
  · exact hs
  all_goals exact h.beginReset _ s

theorem resetEnd : Keeps P resetEnd := by
  intro s hs
  unfold Machine.resetEnd; split
  · exact h.roundStart [] _ (h.resetOver _ s hs)
  · exact hs

theorem lineSampleTick (samples : Vector LineSample 16) (order : List Bay) : Keeps P (lineSampleTick samples order) :=
  fun s hs => Keeps.forBays (h.bayTick samples) _ _ (h.outside _ _ (h.timer _ s hs))

theorem idleTick : Keeps P idleTick := by
  intro s hs
  unfold Machine.idleTick; split
  · exact h.microsecond s hs
  · exact hs

/-! ## Every command, every step -/

theorem exec (c : Instr) {s t : State} (hs : P s) (ht : exec c s = .next t) : P t := by
  cases hr : requestOf c with
  | some r => rw [exec_of_requestOf hr] at ht; exact (h.hostRequest r).whenRunning hs ht
  | none =>
    cases c with
    | curveWrite c k n pts =>
      refine Keeps.whenRunning (work := fun t => if pts.length ≤ Config.maxFramePoints then
        Machine.hostRequest (.curveWrite c k n pts) t else t) (fun t ht => ?_) hs ht
      split
      · exact h.hostRequest _ t ht
      · exact ht
    | frameAccepted p c => exact (h.frameArrives p c).whenRunning hs ht
    | frameAbandoned => exact (h.link Link.hunt).whenRunning hs ht
    | frameGapTimeout => exact (h.link Link.hunt).whenRunning hs ht
    | answerSent => exact h.answerSent.whenRunning hs ht
    | powerOnReset => cases ht; exact h.beginReset _ s
    | pinReset => cases ht; exact h.pinReset s hs
    | commandReset => exact h.commandReset.whenRunning hs ht
    | resetEnd => cases ht; exact h.resetEnd s hs
    | roundStart order => exact (h.roundStartRow order).whenRunning hs ht
    | channelCountdownExpiry b k => exact (h.channelCountdownExpiry b k).whenRunning hs ht
    | intervalExpiry b => exact (h.intervalExpiry b).whenRunning hs ht
    | expiryInWaiting b => exact (h.expiryInWaiting b).whenRunning hs ht
    | endByMaximum b => exact (h.endByMaximum b).whenRunning hs ht
    | dripEnd b => exact (h.dripEnd b).whenRunning hs ht
    | checkPoint v => exact Keeps.whenRunning (fun s hs => h.pointRow .check _ (h.outside _ s hs)) hs ht
    | grantPoint => exact (h.pointRow .grant).whenRunning hs ht
    | sweepStart => exact (h.pointRow .sweep).whenRunning hs ht
    | selectEnd => exact (h.converter Converter.selectEnd).whenRunning hs ht
    | referenceEnd rate => exact (h.referenceEnd rate).whenRunning hs ht
    | sensorEnd x => exact (h.sensorEnd x).whenRunning hs ht
    | wakeEnd => exact h.wakeEnd.whenRunning hs ht
    | presenceSeen => exact h.presenceSeen.whenRunning hs ht
    | presenceWindowClose => exact h.presenceWindowClose.whenRunning hs ht
    | attemptJudged => exact h.attemptJudged.whenRunning hs ht
    | spacingEnd => exact h.spacingEnd.whenRunning hs ht
    | connect b => exact (h.senseAcceptance b true).whenRunning hs ht
    | disconnect b => exact (h.senseAcceptance b false).whenRunning hs ht
    | doorAcceptance b v => exact (h.doorAcceptance b v).whenRunning hs ht
    | runAcceptance b v => exact (h.runAcceptance b v).whenRunning hs ht
    | overcurrentAcceptance b v => exact (h.overcurrentAcceptance b v).whenRunning hs ht
    | powerGoodWaitEnd b => exact (h.powerGoodWaitEnd b).whenRunning hs ht
    | lineSampleTick x order => exact (h.lineSampleTick x order).whenRunning hs ht
    | bitSlotSample v => exact (h.bitSlotSample v).whenRunning hs ht
    | byteReceived v => exact (h.receiveByte v).whenRunning hs ht
    | _ => simp [requestOf] at hr

theorem step {s t : State} (hs : P s) (ht : step s = .next t) : P t := by
  unfold Machine.step at ht; split at ht
  · split at ht
    · exact h.exec _ hs ht
    · cases ht; exact h.idleTick s hs
  next c rest _ => exact h.exec c (h.queue s rest hs) ht

end KeptByRows

end Sys2Proof.Machine

namespace Sys2Proof.Machine

/-! # Every step keeps bay power and power good with SERVING (O55)

`PowerInv` speaks of POWER_GOOD_MS and of the bay controllers, one by one; work on any other field keeps it as it
stands. -/

/-! ## One bay (R42, R43) -/

/-- R42, R43: what `PowerInv` asks of one bay. -/
def BayCtl.powered (x : BayCtl) : Prop :=
  (x.powerOn = true ↔ x.state = .serving) ∧ (x.powerGood = true → x.state = .serving)
    ∧ ∀ w ∈ x.wait, w ≤ 700 ∧ x.state = .serving ∧ x.powerGood = false

theorem powerInv_iff {s : State} : PowerInv s ↔ s.powerGoodMs ≤ 700 ∧ ∀ b : Bay, s.bays[b].powered := Iff.rfl

/-- R42: a bay that is not SERVING has no power. -/
theorem BayCtl.powered_become {st : BayState} (h : st ≠ .serving) (x : BayCtl) : (x.become st).powered := by
  simp [powered, become, h]

/-- R43: an entry to SERVING begins the wait, or ends it at once. -/
theorem BayCtl.powered_serve {ms : Nat} (h : ms ≤ 700) (x : BayCtl) : (x.serve ms).powered := by
  refine ⟨by simp [serve], fun _ => rfl, fun w hw => ?_⟩
  by_cases zero : ms = 0
  · simp [serve, zero] at hw
  · have running : ms = w := by simpa [serve, zero] using hw
    exact ⟨running ▸ h, rfl, by simp [serve, zero]⟩

/-- R43: the end of a wait makes power good at the SERVING bay it runs at. -/
theorem BayCtl.powered_waitEnd {x : BayCtl} {w : Nat} (h : x.powered) (hw : x.wait = some w) :
    BayCtl.powered { x with powerGood := true, wait := none } := by
  obtain ⟨on, -, wait⟩ := h
  exact ⟨on, fun _ => (wait w hw).2.1, nofun⟩

/-- R43: a wait that runs a millisecond stays in its range. -/
theorem BayCtl.powered_millisecond {x : BayCtl} (h : x.powered) : x.millisecond.powered := by
  obtain ⟨on, good, wait⟩ := h
  refine ⟨on, good, fun w hw => ?_⟩
  obtain ⟨v, hv, rfl⟩ : ∃ v, x.wait = some v ∧ v - 1 = w := Option.map_eq_some_iff.1 hw
  obtain ⟨range, serving⟩ := wait v hv
  exact ⟨by omega, serving⟩

/-! ## All bays -/

section
variable {s t : State}

/-- Work that leaves every bay and POWER_GOOD_MS as they are. -/
theorem PowerInv.same (h : PowerInv s) (bays : t.bays = s.bays) (good : t.powerGoodMs = s.powerGoodMs) :
    PowerInv t := by
  rw [powerInv_iff, bays, good]; exact h

/-- Work that changes one bay. -/
theorem PowerInv.set {b : Bay} {x : BayCtl} (h : PowerInv s) (hx : x.powered) (bays : t.bays = s.bays.set b.val x)
    (good : t.powerGoodMs = s.powerGoodMs) : PowerInv t := by
  rw [powerInv_iff, bays, good]
  refine ⟨h.1, fun c => ?_⟩
  rw [vector_set_get]; split
  · exact hx
  · exact h.2 c

theorem PowerInv.modBay {b : Bay} {f : BayCtl → BayCtl} (h : PowerInv s) (hf : (f s.bays[b]).powered) :
    PowerInv (s.modBay b f) := h.set hf rfl rfl

theorem PowerInv.become {st : BayState} (h : PowerInv s) (b : Bay) (hst : st ≠ .serving) :
    PowerInv (s.modBay b (BayCtl.become st)) := h.modBay (BayCtl.powered_become hst _)

end

theorem power_modParked (b : Bay) (f : Record → Record) : Keeps PowerInv (State.modParked b f) := fun _ hs =>
  hs.same (by simp) (by simp)

theorem power_ceaseHeld (b : Bay) : Keeps PowerInv (ceaseHeld b) := fun _ hs => hs.same (by simp) (by simp)

theorem power_ceaseIf (p : Bool) (k : BayKind) (b : Bay) : Keeps PowerInv (ceaseIf p k b) := fun _ hs =>
  hs.same (by simp) (by simp)

theorem power_heatingToWaiting (b : Bay) : Keeps PowerInv (heatingToWaiting b) := fun s hs => by
  rw [heatingToWaiting_frame]; exact hs

theorem power_defrostLeavesServing (b : Bay) : Keeps PowerInv (defrostLeavesServing b) := fun s hs => by
  rw [defrostLeavesServing_frame]; exact hs

theorem power_endHeating (b : Bay) (r : Record) : Keeps PowerInv (endHeating b r) := fun s hs => by
  rw [endHeating_frame]; exact hs

theorem power_endFuelJudgements (b : Bay) : Keeps PowerInv (endFuelJudgements b) := fun s hs => by
  rw [endFuelJudgements_frame]; exact hs

theorem power_acceptDoor (b : Bay) (closed : Bool) : Keeps PowerInv (acceptDoor b closed) := fun s hs => by
  rw [acceptDoor_frame]; exact hs

theorem power_deliverReading (ch : Channel) (x : Reading) : Keeps PowerInv (deliverReading ch x) := fun s hs => by
  rw [deliverReading_frame]; exact hs

theorem power_bringHeadLine (high : Bool) : Keeps PowerInv (bringHeadLine high) := fun s hs => by
  rw [bringHeadLine_frame]; exact hs

/-! ## The operations at a bay (R41 to R52) -/

theorem power_enterServing (b : Bay) : Keeps PowerInv (enterServing b) := by
  intro s hs
  cases ovc : s.doors[b].ovc with
  | clear => rw [enterServing_clear ovc]; exact hs.modBay (BayCtl.powered_serve hs.1 _)
  | tripped => rw [enterServing_tripped ovc]; exact hs.become b nofun

theorem power_clearFault (b : Bay) : Keeps PowerInv (clearFault b) := fun s hs =>
  power_enterServing b (ceaseAt .overcurrent b s) hs

theorem power_trip (b : Bay) : Keeps PowerInv (trip b) := fun _ hs =>
  power_defrostLeavesServing b _ (hs.become b nofun)

theorem power_hold (b : Bay) (h : Held) : Keeps PowerInv (hold b h) := by
  intro s hs
  unfold hold; split
  · exact hs
  · exact (power_ceaseHeld b s hs).become b nofun

theorem power_park (i : SlotIx) (r : Record) (b : Bay) : Keeps PowerInv (park i r b) := fun s hs =>
  power_enterServing b _ ((power_ceaseHeld b s hs).modBay (b := b) (f := fun x => { x with ref := some i }) <|
    (power_ceaseHeld b s hs).2 b)

theorem power_matchNumber (b : Bay) (n : TrailerNo) : Keeps PowerInv (matchNumber b n) := by
  intro s hs
  unfold matchNumber; split
  · split
    · split
      · exact power_hold b _ s hs
      · exact power_park _ _ b s hs
      · exact power_park _ _ b s hs
    · exact hs
  · split
    · exact power_park _ _ b s hs
    · exact power_hold b _ s hs

theorem power_retry (b : Bay) : Keeps PowerInv (retry b) := by
  intro s hs
  unfold retry; split
  · exact power_matchNumber b _ s hs
  all_goals exact hs

theorem power_disable (b : Bay) : Keeps PowerInv (disable b) := by
  intro s hs
  cases hb : s.bays[b].state with
  | disabled => rw [disable_disabled hb]; exact hs
  | empty => rw [disable_empty hb]; exact hs.become b nofun
  | identifying => rw [disable_identifying hb]; exact hs.become b nofun
  | held x => rw [disable_held hb]; exact PowerInv.become (s := ceaseAt x.kind b s) hs b nofun
  | serving => rw [disable_serving hb]; exact power_defrostLeavesServing b _ (hs.become b nofun)
  | fault => rw [disable_fault hb]; exact PowerInv.become (s := ceaseAt .overcurrent b s) hs b nofun

theorem power_enable (b : Bay) : Keeps PowerInv (enable b) := by
  intro s hs
  unfold enable; split
  · split
    · exact power_enterServing b s hs
    · split
      · exact hs.become b nofun
      · exact hs.become b nofun
  all_goals exact hs

theorem power_connect (b : Bay) : Keeps PowerInv (connect b) := by
  intro s hs
  have seen : PowerInv (connected b s) :=
    hs.modBay (b := b) (f := fun x => { x with connected := true, differing := 0 }) (hs.2 b)
  unfold connect; split
  · exact hs
  · dsimp only
    split
    · exact seen.become b nofun
    all_goals exact seen

theorem power_disconnect (b : Bay) : Keeps PowerInv (disconnect b) := by
  intro s hs
  by_cases hc : s.bays[b].connected = true
  · have unserved : (if s.bays[b].state = .disabled then .disabled else .empty : BayState) ≠ .serving := by
      split <;> nofun
    refine hs.set ?_ (disconnect_bays hc) (by rw [disconnect_frame])
    exact BayCtl.powered_become unserved { s.bays[b] with
      connected := false, differing := 0, ref := if (s.recordAt b).isSome then none else s.bays[b].ref }
  · rw [disconnect, if_neg hc]; exact hs

/-! ## Requests -/

/-- R44: POWER_GOOD_MS is stored in its range. -/
theorem storedPowerGood_le (v : Nat) : storedPowerGood v ≤ 700 := by
  unfold storedPowerGood; split
  · exact Nat.le_refl _
  next h => simp only [Config.powerGoodMax, Nat.not_lt] at h; omega

theorem power_storeSetting {x : Setting} {v : Nat} {s t : State} (h : storeSetting x v s = some t) (hs : PowerInv s) :
    PowerInv t := by
  cases x <;> simp only [storeSetting, Option.some.injEq, Option.map_eq_some_iff, reduceCtorEq] at h
  case feederUnits =>
    subst h
    exact Keeps.forBays power_heatingToWaiting _ (s.modFeeder (Feeder.setUnits _)) hs
  case powerGoodMs => subst h; exact ⟨storedPowerGood_le v, hs.2⟩
  case guard => obtain ⟨g, -, rfl⟩ := h; exact hs
  all_goals subst h; exact hs

theorem power_storeCurve (c : Fin 8) (v : Option Curve) : Keeps PowerInv (storeCurve c v) := fun _ hs =>
  Keeps.forBays power_endFuelJudgements _ _ hs

theorem power_book (n : TrailerNo) (a : SettingsArg) {s : State} (hs : PowerInv s) : PowerInv (book n a s).1 := by
  unfold book; split
  · exact hs
  · split
    · exact hs
    · split <;> exact hs

theorem power_amend (n : TrailerNo) (a : SettingsArg) {s : State} (hs : PowerInv s) : PowerInv (amend n a s).1 := by
  unfold amend; split
  · exact hs
  · refine onNamed_keeps hs fun i r _ _ => ?_
    dsimp only
    split
    · split
      · exact hs
      · exact power_endFuelJudgements _ _ hs
    · exact hs

theorem power_retire (n : TrailerNo) {s : State} (hs : PowerInv s) : PowerInv (retire n s).1 :=
  onNamed_keeps hs fun i r _ _ => by split <;> exact hs

theorem power_rebase (n : TrailerNo) {s : State} (hs : PowerInv s) : PowerInv (rebase n s).1 := by
  refine onNamed_keeps hs fun i r _ _ => ?_
  dsimp only
  split
  · split
    · exact power_ceaseIf _ .fuelDrop _ _ hs
    · exact hs
  · exact hs

theorem power_assign (c : Byte) (n : TrailerNo) {s : State} (hs : PowerInv s) : PowerInv (assign c n s).1 := by
  refine onBay_keeps hs fun b => ?_
  split
  · exact hs
  · unfold assignAt; split
    · split
      · split
        · exact hs
        · exact power_park _ _ b s hs
      · split
        · exact power_park _ _ b s hs
        · exact hs
    · exact hs

theorem power_defrostStop (n : TrailerNo) {s : State} (hs : PowerInv s) : PowerInv (defrostStop n s).1 := by
  refine onNamed_keeps hs fun i r _ _ => ?_
  split
  · exact hs
  · exact hs
  · split
    · exact power_endHeating _ r s hs
    · exact hs
  · exact hs

theorem power_defrostNow (n : TrailerNo) {s : State} (hs : PowerInv s) : PowerInv (defrostNow n s).1 := by
  refine onNamed_keeps hs fun i r _ _ => ?_
  split
  · split <;> exact hs
  · exact hs

theorem power_commandClearFault (c : Byte) {s : State} (hs : PowerInv s) : PowerInv (commandClearFault c s).1 := by
  refine onBay_keeps hs fun b => ?_
  split
  · split
    · exact power_clearFault b s hs
    · exact hs
  · exact hs

theorem power_spot (c k : Byte) {s : State} (hs : PowerInv s) : PowerInv (spot c k s).1 := by
  refine onBay_keeps hs fun b => ?_
  split
  · exact hs
  · dsimp only
    split
    · exact hs
    · split
      · exact hs
      · split <;> exact hs

theorem power_curveWrite (c k n : Byte) (pts : List (Word × Half)) {s : State} (hs : PowerInv s) :
    PowerInv (curveWrite c k n pts s).1 := by
  unfold curveWrite; split
  · exact hs
  · split
    · dsimp only
      split
      · exact power_storeCurve _ _ s hs
      · exact hs
    · exact hs

theorem power_curveClear (c : Byte) {s : State} (hs : PowerInv s) : PowerInv (curveClear c s).1 := by
  unfold curveClear; split
  · exact hs
  · split
    · exact hs
    · exact power_storeCurve _ _ s hs

theorem power_set (c : Byte) (v : Word) {s : State} (hs : PowerInv s) : PowerInv (set c v s).1 := by
  unfold set; split
  · unfold setNamed; split
    next stored => exact power_storeSetting stored hs
    · exact hs
  · exact hs

/-- R172: every request keeps it. -/
theorem power_runRequest (r : Request) : Keeps PowerInv fun s => (runRequest r s).1 := by
  intro s hs
  cases r with
  | book n a => exact power_book n a hs
  | amend n a => exact power_amend n a hs
  | retire n => exact power_retire n hs
  | lookup sel op =>
    simp only [runRequest, lookup]
    split
    · exact onNamed_keeps hs fun _ _ _ _ => hs
    all_goals exact hs
  | list st => simp only [runRequest, list]; split <;> exact hs
  | assign b n => exact power_assign b n hs
  | rebase n => exact power_rebase n hs
  | defrostNow n => exact power_defrostNow n hs
  | defrostStop n => exact power_defrostStop n hs
  | bayStatus b => exact onBay_keeps hs fun _ => hs
  | bayEnable b => exact onBay_keeps hs fun b => power_enable b s hs
  | bayDisable b => exact onBay_keeps hs fun b => power_disable b s hs
  | clearFault b => exact power_commandClearFault b hs
  | spot b k => exact power_spot b k hs
  | curveWrite c k n pts => exact power_curveWrite c k n pts hs
  | curveRead c => simp only [runRequest, curveRead]; split <;> exact hs
  | curveClear c => exact power_curveClear c hs
  | set x v => exact power_set x v hs
  | get x => simp only [runRequest, get]; split <;> exact hs
  | routeSet k m c => simp only [runRequest, routeSet]; split <;> exact hs
  | routeRead k => simp only [runRequest, routeRead]; split <;> exact hs
  | take => exact hs
  | ack k p => simp only [runRequest, ack]; split <;> exact hs
  | reset => exact hs

/-! ## The round -/

theorem power_bayRound (b : Bay) : Keeps PowerInv (bayRound b) := by
  intro s hs
  have channels : PowerInv (channelRound b s) := by rw [channelRound_frame]; exact hs
  have defrost : PowerInv (defrostRound b (channelRound b s)) := by rw [defrostRound_frame]; exact channels
  unfold bayRound
  rw [doorRound_frame]
  exact power_retry b _ defrost

theorem power_pointWork (p : Point) : Keeps PowerInv (pointWork p) := fun s hs => by
  rw [pointWork_frame]; exact hs

theorem power_intervalExpiryAt (b : Bay) : Keeps PowerInv (intervalExpiryAt b) := by
  intro s hs
  unfold intervalExpiryAt; split
  · exact hs
  · split
    · split
      · exact power_modParked b _ s hs
      · exact hs
    all_goals exact hs

theorem power_expiryInWaitingAt (b : Bay) : Keeps PowerInv (expiryInWaitingAt b) := by
  intro s hs
  unfold expiryInWaitingAt; split
  · exact hs
  · split
    · split
      · exact power_modParked b _ s hs
      · exact hs
    all_goals exact hs

theorem power_endByMaximumAt (b : Bay) : Keeps PowerInv (endByMaximumAt b) := by
  intro s hs
  unfold endByMaximumAt; split
  · exact hs
  next r _ =>
    split
    · split
      · exact power_endHeating b _ (raiseAt .defrostLong b _ _ s) hs
      · exact hs
    all_goals exact hs

theorem power_dripEndAt (b : Bay) : Keeps PowerInv (dripEndAt b) := by
  intro s hs
  unfold dripEndAt; split
  · exact hs
  · split
    · split
      · exact power_modParked b _ s hs
      · exact hs
    all_goals exact hs

/-! ## The tag reader -/

theorem power_deliverOutcome (o : Option TrailerNo) : Keeps PowerInv (deliverOutcome o) := by
  intro s hs
  have freed : PowerInv (s.modReader (Reader.deliver s.timer.timeUs)) := hs
  unfold deliverOutcome; split
  · exact hs
  · dsimp only
    split
    · exact power_matchNumber _ _ _ freed
    · exact power_hold _ _ _ freed

theorem power_attemptFails (n start : Nat) : Keeps PowerInv (attemptFails n start) := by
  intro s hs
  unfold attemptFails; split
  · exact power_deliverOutcome none s hs
  · exact hs

theorem power_presenceWindowClose : Keeps PowerInv presenceWindowClose := by
  intro s hs
  unfold presenceWindowClose; split
  · exact power_attemptFails _ _ _ (power_bringHeadLine true s hs)
  all_goals exact hs

theorem power_attemptJudged : Keeps PowerInv attemptJudged := by
  intro s hs
  unfold attemptJudged; split
  · split
    · exact hs
    · split
      · exact power_deliverOutcome _ s hs
      · exact power_attemptFails _ _ _ hs
  all_goals exact hs

/-! ## The lines of a bay -/

theorem power_acceptOvc (b : Bay) (closed : Bool) : Keeps PowerInv (acceptOvc b closed) := by
  intro s hs
  simp only [acceptOvc]; split
  · exact power_trip b _ hs
  · exact hs

theorem power_senseAcceptance (b : Bay) (level : Bool) : Keeps PowerInv (senseAcceptance b level) := by
  intro s hs
  unfold senseAcceptance; split
  · exact hs
  · dsimp only
    split
    · exact power_connect b _ hs
    · exact power_disconnect b _ hs

theorem power_doorAcceptance (b : Bay) (closed : Bool) : Keeps PowerInv (doorAcceptance b closed) := by
  intro s hs
  unfold doorAcceptance; split
  · exact power_acceptDoor b closed _ hs
  · exact hs

theorem power_runAcceptance (b : Bay) (active : Bool) : Keeps PowerInv (runAcceptance b active) := by
  intro s hs
  unfold runAcceptance; split <;> exact hs

theorem power_overcurrentAcceptance (b : Bay) (closed : Bool) : Keeps PowerInv (overcurrentAcceptance b closed) := by
  intro s hs
  unfold overcurrentAcceptance; split
  · exact power_acceptOvc b closed _ hs
  · exact hs

theorem power_powerGoodWaitEnd (b : Bay) : Keeps PowerInv (powerGoodWaitEnd b) := by
  intro s hs
  cases hw : s.bays[b].wait with
  | none => rw [powerGoodWaitEnd, hw]; exact hs
  | some w => rw [powerGoodWaitEnd_running hw]; exact hs.modBay (BayCtl.powered_waitEnd (hs.2 b) hw)

theorem power_senseSample (b : Bay) (level : Bool) : Keeps PowerInv (senseSample b level) := by
  intro s hs
  unfold senseSample; split
  · exact hs.modBay (hs.2 b)
  · split
    · split
      · exact power_connect b s hs
      · exact power_disconnect b s hs
    · exact hs.modBay (hs.2 b)

theorem power_doorSample (b : Bay) (level : Bool) : Keeps PowerInv (doorSample b level) := by
  intro s hs
  simp only [doorSample]; split
  · exact power_acceptDoor b level s hs
  · exact hs

theorem power_runSample (b : Bay) (level : Bool) : Keeps PowerInv (runSample b level) := by
  intro s hs
  simp only [runSample]; split <;> exact hs

theorem power_ovcSample (b : Bay) (level : Bool) : Keeps PowerInv (ovcSample b level) := by
  intro s hs
  simp only [ovcSample]; split
  · exact power_acceptOvc b level s hs
  · exact hs

theorem power_watchedSamples (b : Bay) (x : LineSample) : Keeps PowerInv (watchedSamples b x) := by
  intro s hs
  unfold watchedSamples; split
  · exact power_ovcSample b _ _ (power_runSample b _ _ (power_doorSample b _ s hs))
  · exact hs

theorem power_bayTick (samples : Vector LineSample 16) (b : Bay) : Keeps PowerInv (bayTick samples b) := by
  intro s hs
  simp only [bayTick]; split
  · split
    · exact power_watchedSamples b _ _ (power_senseSample b _ s hs)
    · exact power_senseSample b _ s hs
  · exact power_senseSample b _ _ (power_watchedSamples b _ s hs)

/-! ## The time base -/

theorem power_millisecond : Keeps PowerInv millisecond := by
  refine fun s hs => ⟨hs.1, fun b => ?_⟩
  show BayCtl.powered (s.bays.map BayCtl.millisecond)[b.val]
  rw [Vector.getElem_map]
  exact BayCtl.powered_millisecond (hs.2 b)

theorem power_microsecond : Keeps PowerInv microsecond := by
  intro s hs
  simp only [microsecond]; split
  · exact power_millisecond _ hs
  · exact hs

theorem power_keptByRows : KeptByRows PowerInv where
  queue _ _ hs := hs
  link _ _ hs := hs
  timer _ _ hs := hs
  outside _ _ hs := hs
  converter _ _ hs := hs
  request := power_runRequest
  beginReset _ _ := powerInv_reset
  resetOver _ _ hs := hs
  openRound _ hs := hs
  bayRound := power_bayRound
  pointWork := power_pointWork
  intervalExpiry := power_intervalExpiryAt
  expiryInWaiting := power_expiryInWaitingAt
  endByMaximum := power_endByMaximumAt
  dripEnd := power_dripEndAt
  deliverReading := power_deliverReading
  wakeEnd _ hs := hs
  presenceSeen s hs := by rw [presenceSeen_frame]; exact hs
  presenceWindowClose := power_presenceWindowClose
  attemptJudged := power_attemptJudged
  spacingEnd _ hs := hs
  bitSlotSample high s hs := by rw [bitSlotSample_frame]; exact hs
  senseAcceptance := power_senseAcceptance
  doorAcceptance := power_doorAcceptance
  runAcceptance := power_runAcceptance
  overcurrentAcceptance := power_overcurrentAcceptance
  powerGoodWaitEnd := power_powerGoodWaitEnd
  bayTick := power_bayTick
  microsecond := power_microsecond

/-- Settles O55: the work of every row keeps what R42 and R43 ask of each bay. -/
theorem stepKeepsPowerWithService : Obligations.StepKeepsPowerWithService := fun _ _ hs ht =>
  power_keptByRows.step hs ht

end Sys2Proof.Machine

namespace Sys2Proof.Machine

/-! # The phases of an attempt (O30) -/

namespace Reader

/-- A read that has come to an instant and is in a state there. -/
def cameTo (now at' : Nat) (st : ReaderState) (r : Reader) : Reader :=
  { r with state := st, ahead := max (r.instant now) at' - now }

/-- A read brought to an instant has come there, whatever its state becomes. -/
theorem bringTo_eq_cameTo (now at' : Nat) (st : ReaderState) (r : Reader) :
    { r.bringTo now at' with state := st } = r.cameTo now at' st := by
  have ahead : max r.ahead (at' - now) = max (r.instant now) at' - now := by simp only [instant]; omega
  simp only [bringTo, cameTo, ahead]

section
variable {r : Reader} {n start : Nat} (now : Nat)

/-- R58: the wake pulse ends 500 us into the attempt. -/
theorem wakeEnd_wake (h : r.state = .attempt n start .wake) :
    r.wakeEnd now = r.cameTo now (start + 500) (.attempt n start .presence) := by
  rw [wakeEnd, h]
  exact bringTo_eq_cameTo now (start + 500) _ r

/-- R58: presence is recognised in PRESENCE until 900 us into the attempt. -/
theorem recognises_presence (h : r.state = .attempt n start .presence) :
    r.recognises now = decide (r.instant now ≤ start + 900) := by
  rw [recognises, h]; rfl

/-- R58, R60: slot 0 begins where presence is recognised, 600 us into the attempt or later. -/
theorem presenceSeen_presence (h : r.state = .attempt n start .presence) :
    r.presenceSeen now = r.cameTo now (max (r.instant now) (start + 600))
      (.attempt n start (.bits (max (r.instant now) (start + 600)) 0 0 0 [])) := by
  have began : (r.bringTo now (start + Config.presenceOpen)).instant now = max (r.instant now) (start + 600) :=
    bringTo_instant now (start + 600) r
  simp only [presenceSeen, h, began]
  rw [cameTo, ← max_assoc, max_self]
  exact bringTo_eq_cameTo now (start + 600) _ r

/-- R63: the next attempt begins 50 ms after the start of the last. -/
theorem spacingEnd_spacing (h : r.state = .spacing n start) :
    r.spacingEnd now = r.cameTo now (start + 50000) (.attempt (n + 1) (start + 50000) .wake) := by
  rw [spacingEnd, h]
  exact bringTo_eq_cameTo now (start + 50000) _ r

end

/-! ## The sample of a slot (R59, R60) -/

/-- R60: the bit takes the place worth 128, and every other place is halved. -/
theorem shiftIn_eq (high : Bool) (shift : Byte) :
    shiftIn high shift = BitVec.ofNat 8 (shift.toNat / 2 + if high then 128 else 0) := by
  have halved : shift.toNat / 2 < 2 ^ 7 := by have := shift.isLt; omega
  apply BitVec.eq_of_toNat_eq
  rw [shiftIn, BitVec.toNat_or, BitVec.toNat_ushiftRight, Nat.shiftRight_one, BitVec.toNat_ofNat]
  cases high with
  | false =>
    show shift.toNat / 2 ||| 0 = (shift.toNat / 2 + 0) % 2 ^ 8
    rw [Nat.or_zero]; omega
  | true =>
    show shift.toNat / 2 ||| 2 ^ 7 * 1 = (shift.toNat / 2 + 128) % 2 ^ 8
    rw [Nat.or_comm, ← Nat.two_pow_add_eq_or_of_lt halved]; omega

/-- R59: a sample at its instant lies in its own slot. -/
theorem slotAt_sampled {began read k : Nat} (hk : k < 40) : slotAt began (max read (sampleInstant began k)) =
    if read ≤ sampleInstant began k then k else min 39 ((read - began) / 250) := by
  have sample : sampleInstant began k = began + 250 * k + 60 := rfl
  rw [sample]
  show min 39 ((max read (began + 250 * k + 60) - began) / 250) = _
  split
  next notPassed => rw [Nat.max_eq_right notPassed]; omega
  next passed => rw [Nat.max_eq_left (Nat.le_of_not_le passed)]

/-- R60: phase BITS behind a sample, with the shift byte that it leaves. -/
def sampled (began slot : Nat) (count : BitVec 3) (shifted : Byte) (bytes : List Byte) : Phase :=
  if count = 7 then .bits began slot 0 shifted (bytes ++ [shifted]) else .bits began slot (count + 1) shifted bytes

section
variable {r : Reader} {n start began slot : Nat} {count : BitVec 3} {shift : Byte} {bytes : List Byte}

theorem storeBit_bits (h : r.state = .attempt n start (.bits began slot count shift bytes)) (high : Bool) :
    r.storeBit high =
      { r with state := .attempt n start (sampled began slot count (shiftIn high shift) bytes) } := by
  simp only [storeBit, h, sampled]
  split <;> rfl

theorem tick_sampled (h : r.state = .attempt n start (sampled began slot count shift bytes)) (now : Nat) :
    r.tick now =
      { r with state := .attempt n start (sampled began (slotAt began (r.instant now)) count shift bytes) } := by
  unfold sampled at h ⊢
  split at h
  next wraps => simp only [tick, h, if_pos wraps]
  next counts => simp only [tick, h, if_neg counts]

/-- R59: while a slot has still to be sampled the next is 60 us into the slot of that number. -/
theorem nextSample_bits (h : r.state = .attempt n start (.bits began slot count shift bytes)) (l : bytes.length < 5) :
    r.nextSample = some (sampleInstant began (8 * bytes.length + count.toNat)) := by
  simp only [nextSample, h, if_neg (Nat.not_le.2 l)]

theorem nextSample_full (h : r.state = .attempt n start (.bits began slot count shift bytes)) (l : ¬bytes.length < 5) :
    r.nextSample = none := by
  simp only [nextSample, h, if_pos (Nat.not_lt.1 l)]

/-- R59, R60: the sample of slot k, 250 k + 60 us after slot 0 began. -/
theorem sampleBit_bits (h : r.state = .attempt n start (.bits began slot count shift bytes)) {k : Nat} (hk : k < 40)
    (now : Nat) (high : Bool) :
    r.sampleBit now (sampleInstant began k) high = r.cameTo now (sampleInstant began k) (.attempt n start
      (sampled began (if r.instant now ≤ sampleInstant began k then k else min 39 ((r.instant now - began) / 250))
        count (shiftIn high shift) bytes)) := by
  rw [sampleBit, storeBit_bits (r := r.bringTo now _) h high, tick_sampled rfl, ← slotAt_sampled hk,
    ← bringTo_instant]
  exact bringTo_eq_cameTo now _ _ r

end

end Reader

/-! ## The rows of an attempt -/

section
variable {s : State}

theorem bringHeadLine_head {b : Bay} {rest : List Bay} (h : s.reader.queue = b :: rest) (high : Bool) :
    bringHeadLine high s = s.setTagLine b high := by
  simp only [bringHeadLine, h, List.head?_cons]

/-- The head's line and the read of the head are brought in either order. -/
theorem modReader_bringHeadLine (high : Bool) {f : Reader → Reader} (h : (f s.reader).queue = s.reader.queue) :
    (bringHeadLine high s).modReader f = bringHeadLine high (s.modReader f) := by
  simp only [bringHeadLine, State.modReader_reader, h]
  split <;> rfl

theorem presenceSeen_recognised (h : s.reader.recognises s.timer.timeUs = true) :
    presenceSeen s = bringHeadLine false (s.modReader (Reader.presenceSeen s.timer.timeUs)) := by
  rw [presenceSeen, if_pos h, modReader_bringHeadLine false (Reader.presenceSeen_queue _ _)]

variable {n start : Nat}

theorem presenceWindowClose_presence (h : s.reader.state = .attempt n start .presence) :
    presenceWindowClose s =
      attemptFails n start ((bringHeadLine true s).modReader (Reader.bringTo s.timer.timeUs (start + 900))) := by
  simp only [presenceWindowClose, h]; rfl

/-- R63: NO_TAG at attempt 1 or 2 leads to SPACING. -/
theorem presenceWindowClose_again (h : s.reader.state = .attempt n start .presence) (again : n < 3) :
    presenceWindowClose s =
      bringHeadLine true (s.modReader (Reader.cameTo s.timer.timeUs (start + 900) (.spacing n start))) := by
  rw [presenceWindowClose_presence h, attemptFails_again again, ← modReader_bringHeadLine true rfl,
    ← funext (Reader.bringTo_eq_cameTo s.timer.timeUs (start + 900) (.spacing n start))]
  rfl

/-- R63: NO_TAG at attempt 3 is TAG_FAIL at the head. -/
theorem presenceWindowClose_last {b : Bay} {rest : List Bay} (h : s.reader.state = .attempt n start .presence)
    (last : 3 ≤ n) (hq : s.reader.queue = b :: rest) :
    presenceWindowClose s = hold b .tagFail (headFreed rest (bringHeadLine true s)) := by
  rw [presenceWindowClose_presence h, attemptFails_last last, bringHeadLine_head hq]
  exact deliverOutcome_none (s := (s.setTagLine b true).modReader _) hq

theorem bitSlotSample_next {at' : Nat} (h : s.reader.nextSample = some at') (high : Bool) :
    bitSlotSample high s = bringHeadLine high (s.modReader (Reader.sampleBit s.timer.timeUs at' high)) := by
  simp only [bitSlotSample, h]
  exact modReader_bringHeadLine high (by simp only [Reader.sampleBit, Reader.tick_queue, Reader.storeBit_queue,
    Reader.bringTo_queue])

/-- Out of a reset the rows of an attempt do their work. -/
theorem exec_attemptRows (h : s.resetting = none) :
    exec .wakeEnd s = .next (wakeEnd s) ∧ exec .presenceSeen s = .next (presenceSeen s)
      ∧ exec .presenceWindowClose s = .next (presenceWindowClose s) ∧ exec .spacingEnd s = .next (spacingEnd s)
      ∧ ∀ high, exec (.bitSlotSample high) s = .next (bitSlotSample high s) :=
  ⟨whenRunning_of_none h _, whenRunning_of_none h _, whenRunning_of_none h _, whenRunning_of_none h _,
    fun _ => whenRunning_of_none h _⟩

end

/-! ## The use of the tag lines (R65) -/

section
variable {s : State} {b : Bay} {n start began slot : Nat} {count : BitVec 3} {shift : Byte} {bytes : List Byte}

theorem tagLine_of_not_head (h : s.reader.queue.head? ≠ some b) :
    s.tagLineDriven b = false ∧ s.tagLineSampled b = false := by
  have other : (s.reader.queue.head? == some b) = false := beq_eq_false_iff_ne.2 h
  simp only [State.tagLineDriven, Reader.drivesLow, State.tagLineSampled, other, Bool.false_and, and_self]

theorem tagLine_wake (head : s.reader.queue.head? = some b) (h : s.reader.state = .attempt n start .wake) :
    s.tagLineDriven b = true ∧ s.tagLineSampled b = false := by
  simp [State.tagLineDriven, Reader.drivesLow, State.tagLineSampled, Reader.looks, head, h]

theorem tagLine_between (h : s.reader.state = .idle ∨ s.reader.state = .spacing n start) :
    s.tagLineDriven b = false ∧ s.tagLineSampled b = false := by
  rcases h with h | h <;> simp [State.tagLineDriven, Reader.drivesLow, State.tagLineSampled, Reader.looks, h]

theorem tagLine_presence (head : s.reader.queue.head? = some b) (h : s.reader.state = .attempt n start .presence) :
    s.tagLineDriven b = false ∧ (s.tagLineSampled b = true ↔
      start + 600 ≤ s.reader.instant s.timer.timeUs ∧ s.reader.instant s.timer.timeUs ≤ start + 900) := by
  simp only [State.tagLineDriven, Reader.drivesLow, State.tagLineSampled, Reader.looks, Reader.recognises_presence _ h,
    head, h, beq_self_eq_true, Bool.true_and, Bool.and_eq_true, decide_eq_true_eq, true_and]
  rfl

/-- R59: in BITS the head's line is driven in the first 20 us of each of the forty slots. -/
theorem tagLineDriven_bits (head : s.reader.queue.head? = some b)
    (h : s.reader.state = .attempt n start (.bits began slot count shift bytes)) :
    s.tagLineDriven b = true ↔ (s.reader.instant s.timer.timeUs - began) / 250 < 40
      ∧ (s.reader.instant s.timer.timeUs - began) % 250 < 20 := by
  simp only [State.tagLineDriven, Reader.drivesLow, head, h, beq_self_eq_true, Bool.true_and, Bool.and_eq_true,
    decide_eq_true_eq]
  simp only [Reader.lastSlotEnd, Config.slotLength, Config.slotCount, Config.slotDrive]
  omega

/-- R59: in BITS the head's line is looked at where the read stands at the next sample or behind it. -/
theorem tagLineSampled_bits (head : s.reader.queue.head? = some b)
    (h : s.reader.state = .attempt n start (.bits began slot count shift bytes)) :
    s.tagLineSampled b = true ↔ bytes.length < 5 ∧
      began + 250 * (8 * bytes.length + count.toNat) + 60 ≤ s.reader.instant s.timer.timeUs := by
  have looks : s.tagLineSampled b =
      s.reader.nextSample.any (fun at' => decide (at' ≤ s.reader.instant s.timer.timeUs)) := by
    simp only [State.tagLineSampled, Reader.looks, head, h, beq_self_eq_true, Bool.true_and]
  by_cases l : bytes.length < 5
  · rw [looks, Reader.nextSample_bits h l]
    simp only [Option.any_some, decide_eq_true_eq, l, true_and]
    rfl
  · rw [looks, Reader.nextSample_full h l]
    simp [l]

/-- R59: under `ReaderInv` the read has not passed the next sample, so the line is looked at there alone. -/
theorem tagLineSampled_bits_of_readerInv (head : s.reader.queue.head? = some b)
    (h : s.reader.state = .attempt n start (.bits began slot count shift bytes)) (inv : ReaderInv s) :
    s.tagLineSampled b = true ↔ bytes.length < 5 ∧
      s.reader.instant s.timer.timeUs = began + 250 * (8 * bytes.length + count.toNat) + 60 := by
  obtain ⟨-, -, -, -, -, -, notPassed⟩ := (ReaderInv.of_bits h).1 inv
  rw [tagLineSampled_bits head h]
  omega

end

/-- Settles O30: each row by the phase it ends, and the head's line phase by phase. -/
theorem attemptPhasesFollow : Obligations.AttemptPhasesFollow := by
  intro s n start hr now read at' seen
  obtain ⟨wake, presence, close, spacing, sample⟩ := exec_attemptRows hr
  have seen_eq (high : Bool) (t : State) (hq : t.reader.queue = s.reader.queue) :
      seen high t = bringHeadLine high t := by
    simp only [seen, bringHeadLine, hq]
    cases s.reader.queue <;> rfl
  refine ⟨fun h => ?_, fun h inWindow => ?_, fun h again => ?_, fun b rest h last hq => ?_, fun h => ?_,
    fun began slot count shift bytes high h l => ?_, fun b => ⟨tagLine_of_not_head, tagLine_wake,
      tagLine_between, tagLine_presence, fun began slot count shift bytes head h =>
        ⟨tagLineDriven_bits head h, tagLineSampled_bits_of_readerInv head h⟩⟩⟩
  · rw [wake, wakeEnd, State.modReader, Reader.wakeEnd_wake now h]; rfl
  · intro began
    have recognised : s.reader.recognises now = true := by
      rw [Reader.recognises_presence now h]; exact decide_eq_true inWindow
    rw [presence, presenceSeen_recognised recognised, seen_eq false (at' _ _) rfl, State.modReader,
      Reader.presenceSeen_presence now h]
    rfl
  · rw [close, presenceWindowClose_again h again, seen_eq true (at' _ _) rfl]; rfl
  · rw [close, presenceWindowClose_last h last hq, seen_eq true s rfl, bringHeadLine_head hq]; rfl
  · rw [spacing, spacingEnd, State.modReader, Reader.spacingEnd_spacing now h]; rfl
  · intro k instant slot' shifted
    have hk : k < 40 := by have := count.isLt; omega
    have shifted_eq : Reader.shiftIn high shift = shifted := Reader.shiftIn_eq high shift
    rw [sample, bitSlotSample_next (Reader.nextSample_bits h l), seen_eq high (at' _ _) rfl, State.modReader,
      Reader.sampleBit_bits h hk, shifted_eq]
    rfl

end Sys2Proof.Machine

namespace Sys2Proof.Machine

/-! # Rows that are parts of a round start (O52) -/

/-! ## A channel's countdown (R75) -/

/-- A change of a channel depends on what the channel holds alone. -/
theorem Converter.modChannel_congr {ch : Channel} {f g : ChannelCtl → ChannelCtl} {c : Converter}
    (h : f (c.channel ch) = g (c.channel ch)) : c.modChannel ch f = c.modChannel ch g := by
  obtain ⟨b, k⟩ := ch
  cases k with
  | fuel => exact congrArg (fun x => c.modBayChannels b fun y => { y with fuel := x }) h
  | probe => exact congrArg (fun x => c.modBayChannels b fun y => { y with probe := x }) h

section
variable {s : State} {b : Bay}

/-- R75: at its end a countdown is reloaded with the period of its kind, and a mark that stands stays. -/
theorem channelCountdownExpiry_last {k : ChannelKind} (serving : s.bays[b].state = .serving)
    (last : (s.converter.channel { bay := b, kind := k }).countdown = 1) :
    channelCountdownExpiry b k s = s.modConverter (Converter.modChannel { bay := b, kind := k } fun x =>
      { countdown := s.converter.period k, due := some (x.due.getD s.timer.number) }) := by
  rw [channelCountdownExpiry, if_pos ⟨serving, last⟩]
  refine congrArg (fun c => { s with converter := c }) (Converter.modChannel_congr ?_)
  exact (Converter.countDown_eq _ _ _).trans (if_pos last)

/-! ## A defrost count that ends (R114, R115, R119, R121) -/

/-- R114: by the wall the clock always runs, else while the unit runs. -/
theorem clockRuns_iff {mode : ClockMode} {run : RunState} :
    clockRuns mode run = true ↔ mode = .wall ∨ run = .running := by
  cases mode <;> cases run <;> simp [clockRuns]

variable {r : Record}

theorem intervalExpiryAt_last (rec : s.recordAt b = some r) (idle : r.defrost.state = .idle)
    (clock : clockRuns r.settings.clockMode s.doors[b].run = true) (last : r.defrost.intervalCount ≤ 1) :
    intervalExpiryAt b s = defrostRound b s := by
  simp only [intervalExpiryAt, defrostRound, rec, idle, clock, last, decide_true, Bool.and_self, if_true]

theorem expiryInWaitingAt_last {c : DefrostClass} (rec : s.recordAt b = some r) (waiting : r.defrost.state = .waiting c)
    (clock : clockRuns r.settings.clockMode s.doors[b].run = true) (last : r.defrost.intervalCount ≤ 1) :
    expiryInWaitingAt b s = defrostRound b s := by
  simp only [expiryInWaitingAt, defrostRound, rec, waiting, clock, last, decide_true, Bool.and_self, if_true]

theorem endByMaximumAt_last {g : DefrostClass} (rec : s.recordAt b = some r) (heating : r.defrost.state = .heating g)
    (last : r.settings.maxHeat ≤ r.defrost.heatRounds + 1) : endByMaximumAt b s = defrostRound b s := by
  simp only [endByMaximumAt, defrostRound, rec, heating, last, if_true]

theorem dripEndAt_last (rec : s.recordAt b = some r) (dripping : r.defrost.state = .dripping)
    (last : r.defrost.dripCount ≤ 1) : dripEndAt b s = defrostRound b s := by
  simp only [dripEndAt, defrostRound, rec, dripping, last, if_true]

end

/-- Settles O52: each row by the count that it ends. -/
theorem roundStartPartsActAtTheirCount : Obligations.RoundStartPartsActAtTheirCount := by
  intro s b running
  have row {work : State → State} {t : State} (h : work s = t) : whenRunning s work = .next t := by
    rw [whenRunning_of_none running, h]
  refine ⟨fun k serving last => row (channelCountdownExpiry_last serving last), fun r rec => ?_⟩
  intro clock
  refine ⟨fun idle runs last => row ?_, fun c waiting runs last => row ?_, fun g heating last => row ?_,
    fun dripping last => row ?_⟩
  · exact intervalExpiryAt_last rec idle (clockRuns_iff.2 runs) (Nat.le_of_eq last)
  · exact expiryInWaitingAt_last rec waiting (clockRuns_iff.2 runs) (Nat.le_of_eq last)
  · exact endByMaximumAt_last rec heating last
  · exact dripEndAt_last rec dripping (Nat.le_of_eq last)

end Sys2Proof.Machine

namespace Sys2Proof.Machine

/-! # The resistances of a sensor count (O34) -/

/-! ## Division to nearest, halves up -/

theorem le_divHalfUp_iff {a n q : Nat} (hn : 0 < n) : q ≤ divHalfUp a n ↔ 2 * q * n ≤ 2 * a + n := by
  rw [divHalfUp, Nat.le_div_iff_mul_le (by omega), Nat.mul_left_comm, Nat.mul_assoc]

theorem divHalfUp_lt_iff {a n q : Nat} (hn : 0 < n) : divHalfUp a n < q ↔ 2 * a + n < 2 * q * n := by
  rw [← Nat.not_le, le_divHalfUp_iff hn, Nat.not_le]

section
variable {n : Nat}

/-! ## FUEL (R71) -/

theorem fuelReading_eq (n : Nat) : fuelReading n =
    if 40000 < divHalfUp 40960000 n then .error .high else .resistance (divHalfUp 40960000 n - 10000) := rfl

/-- R71: a count of 1023 or less lies above 4000.0 ohms. -/
theorem fuel_high_iff (hn : 0 < n) : 40000 < divHalfUp 40960000 n ↔ n ≤ 1023 := by
  rw [Nat.lt_iff_add_one_le, le_divHalfUp_iff hn]; omega

theorem fuelReading_high_iff (hn : 0 < n) : fuelReading n = .error .high ↔ n ≤ 1023 := by
  rw [fuelReading_eq, ← fuel_high_iff hn]
  split
  next high => exact iff_of_true rfl high
  next low => exact iff_of_false nofun low

theorem fuelReading_resistance_le {r : Nat} (h : fuelReading n = .resistance r) : r ≤ 30000 := by
  rw [fuelReading_eq] at h
  split at h
  next => cases h
  next low =>
    have less := Reading.resistance.inj h
    omega

/-! ## PROBE (R72) -/

theorem probeReading_eq (n : Nat) : probeReading n = .resistance (divHalfUp 20480000 n) := rfl

theorem probe_range (least : 16 ≤ n) (most : n < 1048575) :
    20 ≤ divHalfUp 20480000 n ∧ divHalfUp 20480000 n ≤ 1280000 := by
  have hn : 0 < n := by omega
  rw [le_divHalfUp_iff hn, ← @Nat.lt_add_one_iff _ 1280000, divHalfUp_lt_iff hn]
  omega

end

/-- Settles O34: the quotients by the inequalities that rounding to nearest gives. -/
theorem resistancesRoundToNearest : Obligations.ResistancesRoundToNearest := by
  refine ⟨fun n least => ?_, fun n least most => ?_⟩
  all_goals have hn : 0 < n := by omega
  · exact ⟨⟨divHalfUp 40960000 n, (le_divHalfUp_iff hn).1 le_rfl, (divHalfUp_lt_iff hn).1 (Nat.lt_succ_self _),
      fuelReading_eq n⟩, fuelReading_high_iff hn, fun _ => fuelReading_resistance_le⟩
  · exact ⟨divHalfUp 20480000 n, probeReading_eq n, (le_divHalfUp_iff hn).1 le_rfl,
      (divHalfUp_lt_iff hn).1 (Nat.lt_succ_self _), probe_range least most⟩

end Sys2Proof.Machine

namespace Sys2Proof.Machine

/-! # The stages of a conversion (O33) -/

/-! ## The oscillator over a span of ticks (R67, R69, R70) -/

namespace Oscillation

section
variable {x : Oscillation} {phase : Nat}

theorem cyclesIn_zero (hp : phase < x.den) : x.cyclesIn phase 0 = 0 := by
  rw [cyclesIn, Nat.zero_mul, Nat.add_zero, Nat.div_eq_of_lt hp]

theorem phaseAfter_zero (hp : phase < x.den) : x.phaseAfter phase 0 = phase := by
  rw [phaseAfter, Nat.zero_mul, Nat.add_zero, Nat.mod_eq_of_lt hp]

theorem phaseAfter_lt (hp : phase < x.den) (m : Nat) : x.phaseAfter phase m < x.den := Nat.mod_lt _ (by omega)

/-- The cycles and the part of a cycle make up what the oscillator has gone through. -/
theorem gone_eq (x : Oscillation) (phase m n : Nat) : phase + (m + n) * x.num =
    x.phaseAfter phase m + n * x.num + x.den * x.cyclesIn phase m := by
  have split := Nat.mod_add_div (phase + m * x.num) x.den
  rw [phaseAfter, cyclesIn, Nat.add_mul]
  omega

theorem cyclesIn_add (hp : phase < x.den) (m n : Nat) :
    x.cyclesIn phase (m + n) = x.cyclesIn phase m + x.cyclesIn (x.phaseAfter phase m) n := by
  rw [cyclesIn, gone_eq, Nat.add_mul_div_left _ _ (by omega), Nat.add_comm]
  rfl

theorem phaseAfter_add (x : Oscillation) (phase m n : Nat) :
    x.phaseAfter phase (m + n) = x.phaseAfter (x.phaseAfter phase m) n := by
  rw [phaseAfter, gone_eq, Nat.add_mul_mod_self_left]
  rfl

theorem cyclesIn_mono (x : Oscillation) (phase : Nat) {m n : Nat} (h : m ≤ n) :
    x.cyclesIn phase m ≤ x.cyclesIn phase n :=
  Nat.div_le_div_right (Nat.add_le_add_left (Nat.mul_le_mul_right _ h) _)

theorem le_cyclesIn_iff (hp : phase < x.den) (cycles k : Nat) :
    cycles ≤ x.cyclesIn phase k ↔ cycles * x.den ≤ phase + k * x.num :=
  Nat.le_div_iff_mul_le (by omega)

/-- R69, R70: within the span of the timebase counter the cycles come at their tick, and no sooner; those of an oscillator
that stands do not come. -/
theorem ticksFor_le_iff (hp : phase < x.den) {cycles k : Nat} (inSpan : k < 1048576) :
    x.ticksFor phase cycles ≤ k ↔ cycles ≤ x.cyclesIn phase k := by
  by_cases none : cycles = 0
  · simp [ticksFor, none]
  by_cases stands : x.num = 0
  · have never : x.cyclesIn phase k = 0 := by rw [cyclesIn, stands, Nat.mul_zero, Nat.add_zero, Nat.div_eq_of_lt hp]
    have ticks : x.ticksFor phase cycles = 1048576 := by rw [ticksFor, if_neg none, if_pos stands]; rfl
    omega
  · exact ticksFor_spec stands hp none k

end

end Oscillation

/-! ## The ticks a stage has still to last (R69, R70) -/

namespace Converter

/-- R69: the cycle counter's wrap: past its largest value it stands at 0. -/
def wrap (counted : Nat) : Nat := if counted < 1048576 then counted else 0

theorem wrap_eq_self {counted : Nat} (h : counted < 1048576) : wrap counted = counted := if_pos h

theorem wrap_le (counted : Nat) : wrap counted ≤ 1048575 := by unfold wrap; split <;> omega

theorem wrap_eq_zero_iff {counted : Nat} : wrap counted = 0 ↔ counted = 0 ∨ 1048576 ≤ counted := by
  unfold wrap; split <;> omega

section
variable {c : Converter} {x : Oscillation} {tb cy : Nat}

/-- R69: REFERENCE has ended by a tick where the cycle counter has wrapped by then, or the timebase counter is at its
limit. -/
theorem referenceTicks_le_iff (hp : c.phase < x.den) (hcy : cy ≤ 1048575) (k : Nat) : c.referenceTicks x tb cy ≤ k ↔
    cy = 0 ∨ 1048576 ≤ cy + x.cyclesIn c.phase k ∨ 1048575 ≤ tb + k := by
  by_cases wrapped : cy = 0
  · simp [referenceTicks, wrapped]
  simp only [referenceTicks, wrapped, if_false, false_or, Config.counterSpan, Config.counterLimit]
  by_cases inSpan : k < 1048576
  · have cycles := Oscillation.ticksFor_le_iff hp (cycles := 1048576 - cy) inSpan
    omega
  · omega

/-- R70: SENSOR has ended by a tick where the timebase counter has come to 0 by then, or the cycle counter to its
limit. -/
theorem sensorTicks_le_iff (hp : c.phase < x.den) (htb : tb ≤ 1048575) (k : Nat) : c.sensorTicks x tb cy ≤ k ↔
    tb ≤ k ∨ 1048575 ≤ cy + x.cyclesIn c.phase k := by
  simp only [sensorTicks, Config.counterLimit]
  by_cases inSpan : k < 1048576
  · have cycles := Oscillation.ticksFor_le_iff hp (cycles := 1048575 - cy) inSpan
    omega
  · omega

end

/-! ## A stage that has run (R68 to R70) -/

/-- R69: REFERENCE `k` ticks on, its end not passed. -/
def afterReference (o : Outside) (ch : Channel) (tb cy k : Nat) (c : Converter) : Converter :=
  { c with
    stage := .reference ch (tb + k) (wrap (cy + (o.onReference ch).cyclesIn c.phase k))
    phase := (o.onReference ch).phaseAfter c.phase k }

/-- R70: SENSOR `k` ticks on, its end not passed. -/
def afterSensor (o : Outside) (ch : Channel) (t tb cy k : Nat) (c : Converter) : Converter :=
  { c with
    stage := .sensor ch t (tb - k) (min 1048575 (cy + (o.onNetwork ch).cyclesIn c.phase k))
    phase := (o.onNetwork ch).phaseAfter c.phase k }

section
variable {c : Converter} {o : Outside} {ch : Channel} {t tb cy : Nat}

theorem run_idle (h : c.stage = .idle) (n : Nat) : c.run o n = c := by simp only [run, h]

theorem run_select (h : c.stage = .select ch) (n : Nat) : c.run o n = { c with settle := c.settle - n } := by
  simp only [run, h]

theorem run_reference (h : c.stage = .reference ch tb cy) (n : Nat) :
    c.run o n = c.afterReference o ch tb cy (min n (c.referenceTicks (o.onReference ch) tb cy)) := by
  simp only [run, h]; rfl

theorem run_sensor (h : c.stage = .sensor ch t tb cy) (n : Nat) :
    c.run o n = c.afterSensor o ch t tb cy (min n (c.sensorTicks (o.onNetwork ch) tb cy)) := by
  simp only [run, h]; rfl

theorem afterReference_zero (h : c.stage = .reference ch tb cy) (hp : c.phase < (o.onReference ch).den)
    (hcy : cy ≤ 1048575) : c.afterReference o ch tb cy 0 = c := by
  rw [afterReference, Oscillation.cyclesIn_zero hp, Oscillation.phaseAfter_zero hp, Nat.add_zero, Nat.add_zero,
    wrap_eq_self (by omega), ← h]

theorem afterSensor_zero (h : c.stage = .sensor ch t tb cy) (hp : c.phase < (o.onNetwork ch).den) (hcy : cy ≤ 1048575) :
    c.afterSensor o ch t tb cy 0 = c := by
  rw [afterSensor, Oscillation.cyclesIn_zero hp, Oscillation.phaseAfter_zero hp, Nat.add_zero, Nat.sub_zero,
    Nat.min_eq_right hcy, ← h]

/-- R69: the ticks left to REFERENCE run down. -/
theorem referenceTicks_afterReference (hp : c.phase < (o.onReference ch).den) (hcy : cy ≤ 1048575) {k : Nat}
    (hk : k ≤ c.referenceTicks (o.onReference ch) tb cy) :
    (c.afterReference o ch tb cy k).referenceTicks (o.onReference ch) (tb + k)
        (wrap (cy + (o.onReference ch).cyclesIn c.phase k)) =
      c.referenceTicks (o.onReference ch) tb cy - k := by
  set x := o.onReference ch
  have before := referenceTicks_le_iff (tb := tb) hp hcy
  refine eq_of_forall_ge_iff fun j => ?_
  have noCycle : cy = 0 → x.cyclesIn c.phase k = 0 := fun wrapped => by
    have noTick : k = 0 := by have := (before 0).2 (.inl wrapped); omega
    rw [noTick, Oscillation.cyclesIn_zero hp]
  have later := before (k + j)
  rw [Oscillation.cyclesIn_add hp] at later
  rw [referenceTicks_le_iff (Oscillation.phaseAfter_lt hp k) (wrap_le _), wrap_eq_zero_iff]
  change _ ∨ 1048576 ≤ _ + x.cyclesIn (x.phaseAfter c.phase k) j ∨ _ ↔ _
  rcases Nat.lt_or_ge (cy + x.cyclesIn c.phase k) 1048576 with counts | wraps
  · rw [wrap_eq_self counts]; omega
  · omega

/-- R70: the ticks left to SENSOR run down. -/
theorem sensorTicks_afterSensor (hp : c.phase < (o.onNetwork ch).den) (htb : tb ≤ 1048575) {k : Nat}
    (hk : k ≤ c.sensorTicks (o.onNetwork ch) tb cy) :
    (c.afterSensor o ch t tb cy k).sensorTicks (o.onNetwork ch) (tb - k)
        (min 1048575 (cy + (o.onNetwork ch).cyclesIn c.phase k)) =
      c.sensorTicks (o.onNetwork ch) tb cy - k := by
  set x := o.onNetwork ch
  refine eq_of_forall_ge_iff fun j => ?_
  have later := sensorTicks_le_iff (cy := cy) hp htb (k + j)
  rw [Oscillation.cyclesIn_add hp] at later
  rw [sensorTicks_le_iff (Oscillation.phaseAfter_lt hp k) (by omega)]
  change _ ∨ 1048575 ≤ _ + x.cyclesIn (x.phaseAfter c.phase k) j ↔ _
  omega

theorem afterReference_add (hp : c.phase < (o.onReference ch).den) (hcy : cy ≤ 1048575) {k j : Nat}
    (hk : k + j ≤ c.referenceTicks (o.onReference ch) tb cy) : c.afterReference o ch tb cy (k + j) =
      (c.afterReference o ch tb cy k).afterReference o ch (tb + k)
        (wrap (cy + (o.onReference ch).cyclesIn c.phase k)) j := by
  rcases Nat.eq_zero_or_pos j with none | more
  · rw [none, afterReference_zero rfl (Oscillation.phaseAfter_lt hp k) (wrap_le _), Nat.add_zero]
  · have running := mt (referenceTicks_le_iff (tb := tb) hp hcy k).2 (by omega)
    rw [wrap_eq_self (by omega)]
    simp only [afterReference, Oscillation.cyclesIn_add hp, Oscillation.phaseAfter_add, Nat.add_assoc]

theorem afterSensor_add (hp : c.phase < (o.onNetwork ch).den) (k j : Nat) : c.afterSensor o ch t tb cy (k + j) =
      (c.afterSensor o ch t tb cy k).afterSensor o ch t (tb - k)
        (min 1048575 (cy + (o.onNetwork ch).cyclesIn c.phase k)) j := by
  have capped (a b : Nat) : min 1048575 (cy + (a + b)) = min 1048575 (min 1048575 (cy + a) + b) := by omega
  simp only [afterSensor, Oscillation.cyclesIn_add hp, Oscillation.phaseAfter_add, Nat.sub_sub, capped]

theorem min_add_left_sub (m n ticks : Nat) : min (m + n) ticks = min m ticks + min n (ticks - min m ticks) := by omega

/-- R69: ticks of REFERENCE add up, where none passes its end. -/
theorem run_add_reference (h : c.stage = .reference ch tb cy) (hp : c.phase < (o.onReference ch).den)
    (hcy : cy ≤ 1048575) (m n : Nat) : c.run o (m + n) = (c.run o m).run o n := by
  rw [run_reference h, run_reference h, run_reference rfl,
    referenceTicks_afterReference hp hcy (Nat.min_le_right _ _), min_add_left_sub, afterReference_add hp hcy (by omega)]

/-- R70: ticks of SENSOR add up, where none passes its end. -/
theorem run_add_sensor (h : c.stage = .sensor ch t tb cy) (hp : c.phase < (o.onNetwork ch).den)
    (htb : tb ≤ 1048575) (m n : Nat) : c.run o (m + n) = (c.run o m).run o n := by
  rw [run_sensor h, run_sensor h, run_sensor rfl, sensorTicks_afterSensor hp htb (Nat.min_le_right _ _),
    min_add_left_sub, afterSensor_add hp]

/-- Table 25: what a REFERENCE in its ranges comes to. -/
theorem reference_bounds (h : c.stage = .reference ch tb cy) (ok : c.stage.ok) (phase : c.phaseOk o) :
    c.phase < (o.onReference ch).den ∧ tb ≤ 1048575 ∧ cy ≤ 1048575 := by
  unfold phaseOk at phase
  rw [h] at ok phase
  obtain ⟨timebase, cycles, -⟩ := ok
  exact ⟨phase, timebase, cycles⟩

/-- Table 25: what a SENSOR in its ranges comes to. -/
theorem sensor_bounds (h : c.stage = .sensor ch t tb cy) (ok : c.stage.ok) (phase : c.phaseOk o) :
    c.phase < (o.onNetwork ch).den ∧ tb ≤ 1048575 ∧ cy ≤ 1048575 := by
  unfold phaseOk at phase
  rw [h] at ok phase
  obtain ⟨-, held, timebase, cycles⟩ := ok
  exact ⟨phase, by omega, cycles⟩

theorem run_zero (ok : c.stage.ok) (phase : c.phaseOk o) : c.run o 0 = c := by
  cases h : c.stage with
  | idle => exact run_idle h 0
  | select ch => exact run_select h 0
  | reference ch tb cy =>
    obtain ⟨hp, -, hcy⟩ := reference_bounds h ok phase
    rw [run_reference h, Nat.zero_min, afterReference_zero h hp hcy]
  | sensor ch t tb cy =>
    obtain ⟨hp, -, hcy⟩ := sensor_bounds h ok phase
    rw [run_sensor h, Nat.zero_min, afterSensor_zero h hp hcy]

theorem run_add (ok : c.stage.ok) (phase : c.phaseOk o) (m n : Nat) : c.run o (m + n) = (c.run o m).run o n := by
  cases h : c.stage with
  | idle => rw [run_idle h, run_idle h, run_idle h]
  | select ch => rw [run_select h, run_select h, run_select (c := { c with settle := c.settle - m }) h, Nat.sub_sub]
  | reference ch tb cy =>
    obtain ⟨hp, -, hcy⟩ := reference_bounds h ok phase
    exact run_add_reference h hp hcy m n
  | sensor ch t tb cy =>
    obtain ⟨hp, htb, -⟩ := sensor_bounds h ok phase
    exact run_add_sensor h hp htb m n

/-! ## One tick -/

theorem run_reference_ended (h : c.stage = .reference ch tb cy) (hp : c.phase < (o.onReference ch).den)
    (hcy : cy ≤ 1048575) (ended : cy = 0 ∨ 1048575 ≤ tb) (n : Nat) : c.run o n = c := by
  rw [run_reference h, (referenceTicks_eq_zero hp hcy).2 ended, Nat.min_zero, afterReference_zero h hp hcy]

theorem run_sensor_ended (h : c.stage = .sensor ch t tb cy) (hp : c.phase < (o.onNetwork ch).den)
    (hcy : cy ≤ 1048575) (ended : tb = 0 ∨ 1048575 ≤ cy) (n : Nat) : c.run o n = c := by
  rw [run_sensor h, (sensorTicks_eq_zero hp).2 ended, Nat.min_zero, afterSensor_zero h hp hcy]

theorem run_reference_one (h : c.stage = .reference ch tb cy) (hp : c.phase < (o.onReference ch).den)
    (hcy : cy ≤ 1048575) (running : ¬(cy = 0 ∨ 1048575 ≤ tb)) : c.run o 1 = { c with
      stage := .reference ch (tb + 1) (wrap (cy + (c.phase + o.referenceRate ch) / 4000000000))
      phase := (c.phase + o.referenceRate ch) % 4000000000 } := by
  have ticks := mt (referenceTicks_eq_zero (tb := tb) hp hcy).1 running
  rw [run_reference h, Nat.min_eq_left (Nat.one_le_iff_ne_zero.2 ticks), afterReference, Oscillation.cyclesIn,
    Oscillation.phaseAfter, Nat.one_mul]
  rfl

theorem run_sensor_one (h : c.stage = .sensor ch t tb cy) (hp : c.phase < (o.onNetwork ch).den)
    (running : ¬(tb = 0 ∨ 1048575 ≤ cy)) : c.run o 1 = { c with
      stage := .sensor ch t (tb - 1) (min 1048575
        (cy + (c.phase + o.referenceRate ch * referenceResistor ch.kind) / (4000000000 * o.network ch)))
      phase := (c.phase + o.referenceRate ch * referenceResistor ch.kind) % (4000000000 * o.network ch) } := by
  have ticks := mt (sensorTicks_eq_zero (tb := tb) (cy := cy) hp).1 running
  rw [run_sensor h, Nat.min_eq_left (Nat.one_le_iff_ne_zero.2 ticks), afterSensor, Oscillation.cyclesIn,
    Oscillation.phaseAfter, Nat.one_mul]
  rfl

/-! ## The end of a stage -/

/-- R69: REFERENCE ends within the span of the timebase counter. -/
theorem runOut_reference (h : c.stage = .reference ch tb cy) (hp : c.phase < (o.onReference ch).den)
    (hcy : cy ≤ 1048575) :
    c.runOut o = c.afterReference o ch tb cy (c.referenceTicks (o.onReference ch) tb cy) := by
  have inSpan := (referenceTicks_le_iff (tb := tb) hp hcy 1048576).2 (.inr (.inr (by omega)))
  rw [runOut, run_reference h]
  exact congrArg (fun k => c.afterReference o ch tb cy k) (Nat.min_eq_right inSpan)

/-- R70: SENSOR ends within the span of the timebase counter, with the cycles of all its ticks or with the counter at its
limit. -/
theorem runOut_sensor (h : c.stage = .sensor ch t tb cy) (hp : c.phase < (o.onNetwork ch).den) (htb : tb ≤ 1048575) :
    ∃ left, (c.runOut o).stage =
      .sensor ch t left (min 1048575 (cy + (o.onNetwork ch).cyclesIn c.phase tb)) := by
  set ticks := c.sensorTicks (o.onNetwork ch) tb cy
  have inSpan : min 1048576 ticks = ticks :=
    Nat.min_eq_right ((sensorTicks_le_iff hp htb 1048576).2 (.inl (by omega)))
  have ended := (sensorTicks_le_iff (cy := cy) hp htb ticks).1 le_rfl
  have atMost : ticks ≤ tb := (sensorTicks_le_iff hp htb tb).2 (.inl le_rfl)
  have fewer := (o.onNetwork ch).cyclesIn_mono c.phase atMost
  have counted : min 1048575 (cy + (o.onNetwork ch).cyclesIn c.phase ticks) =
      min 1048575 (cy + (o.onNetwork ch).cyclesIn c.phase tb) := by
    rcases ended with all | limit
    · rw [Nat.le_antisymm atMost all]
    · omega
  refine ⟨tb - ticks, ?_⟩
  rw [runOut, run_sensor h, ← counted]
  exact congrArg (fun k => (c.afterSensor o ch t tb cy k).stage) inSpan

/-- A phase on the network before is one on the network that has come in its place. -/
theorem onNewNetwork_phase_lt {before after : Nat} (hb : 0 < before) (ha : 0 < after)
    (hp : c.phase < 4000000000 * before) : c.phase * after / before < 4000000000 * after := by
  rw [Nat.div_lt_iff_lt_mul hb, Nat.mul_right_comm]
  exact Nat.mul_lt_mul_of_pos_right hp ha

end

end Converter

/-! ## The ends of the stages (R69, R70) -/

/-! ### No chain reads what stands outside -/

theorem recordAt_modOutside (f : Outside → Outside) (b : Bay) (s : State) :
    (s.modOutside f).recordAt b = s.recordAt b := rfl

theorem readCurve_modOutside (f : Outside → Outside) (k : ChannelKind) (c : Option (Fin 8)) (r : Nat) (s : State) :
    (s.modOutside f).readCurve k c r = s.readCurve k c r := rfl

theorem report_modOutside (f : Outside → Outside) (before after : Bool) (k : BayKind) (b : Bay) (n : Option TrailerNo)
    (v : NoticeValue) (s : State) :
    report before after k b n v (s.modOutside f) = (report before after k b n v s).modOutside f := by
  cases before <;> cases after <;> rfl

theorem ceaseIf_modOutside (f : Outside → Outside) (p : Bool) (k : BayKind) (b : Bay) (s : State) :
    ceaseIf p k b (s.modOutside f) = (ceaseIf p k b s).modOutside f := by
  cases p <;> rfl

theorem modCond_modOutside (f : Outside → Outside) (b : Bay) (g : Conditions → Conditions) (s : State) :
    (s.modOutside f).modCond b g = (s.modCond b g).modOutside f := rfl

theorem endHeating_modOutside (f : Outside → Outside) (b : Bay) (r : Record) (s : State) :
    endHeating b r (s.modOutside f) = (endHeating b r s).modOutside f :=
  congrArg (raiseAt .defrostEnd b _ _) (modParked_modOutside b _ f ((s.modFeeder (Feeder.release b)).setHeat b false))

theorem filteredUpdate_modOutside (f : Outside → Outside) (b : Bay) (r : Record) (l : Int) (s : State) :
    filteredUpdate b r l (s.modOutside f) = (filteredUpdate b r l s).modOutside f := by
  simp only [filteredUpdate, modParked_modOutside, modCond_modOutside, report_modOutside]
  rfl

theorem fuelResult_modOutside (f : Outside → Outside) (b : Bay) (r : Nat) (s : State) :
    fuelResult b r (s.modOutside f) = (fuelResult b r s).modOutside f := by
  unfold fuelResult
  rw [recordAt_modOutside]
  split
  next => rfl
  next =>
    simp only [readCurve_modOutside, modParked_modOutside, modCond_modOutside, ceaseIf_modOutside,
      filteredUpdate_modOutside, State.modOutside_doors, State.modOutside_conditions, State.modOutside_timer]
    split
    · split <;> rfl
    · rfl

theorem fuelError_modOutside (f : Outside → Outside) (b : Bay) (e : ErrorKind) (s : State) :
    fuelError b e (s.modOutside f) = (fuelError b e s).modOutside f := by
  unfold fuelError
  rw [recordAt_modOutside]
  split
  next => rfl
  next =>
    simp only [modParked_modOutside, modCond_modOutside, report_modOutside, State.modOutside_conditions]
    split <;> rfl

theorem probeResult_modOutside (f : Outside → Outside) (b : Bay) (r : Nat) (s : State) :
    probeResult b r (s.modOutside f) = (probeResult b r s).modOutside f := by
  unfold probeResult
  rw [recordAt_modOutside]
  split
  next => rfl
  next =>
    simp only [readCurve_modOutside, modParked_modOutside, modCond_modOutside, ceaseIf_modOutside,
      endHeating_modOutside, State.modOutside_conditions]
    split
    · split <;> rfl
    · rfl

theorem probeError_modOutside (f : Outside → Outside) (b : Bay) (e : ErrorKind) (s : State) :
    probeError b e (s.modOutside f) = (probeError b e s).modOutside f := by
  unfold probeError
  rw [recordAt_modOutside]
  split
  next => rfl
  next =>
    simp only [modParked_modOutside, modCond_modOutside, report_modOutside, State.modOutside_conditions]
    split <;> rfl

/-- R73: no chain reads what stands outside. -/
theorem deliverReading_modOutside (f : Outside → Outside) (ch : Channel) (x : Reading) (s : State) :
    deliverReading ch x (s.modOutside f) = (deliverReading ch x s).modOutside f := by
  obtain ⟨b, k⟩ := ch
  cases k <;> cases x
  · exact fuelResult_modOutside f b _ s
  · exact fuelError_modOutside f b _ s
  · exact probeResult_modOutside f b _ s
  · exact probeError_modOutside f b _ s

/-! ### A conversion ended by a row -/

/-- R73, R81: a conversion that ends on what a row has brought. -/
theorem conversionDone_modOutside (f : Outside → Outside) (ch : Channel) (x : Reading) (s : State) :
    conversionDone ch x (s.modOutside f) = { deliverReading ch x s with
      outside := f s.outside, converter := s.converter.takeNext s.timer.remaining } := by
  have converter : (deliverReading ch x s).converter = s.converter := by rw [deliverReading_frame]
  have outside : (deliverReading ch x s).outside = s.outside := by rw [deliverReading_frame]
  rw [conversionDone, deliverReading_modOutside, State.modConverter, State.modOutside_converter, converter,
    State.modOutside, outside, State.modOutside]

section
variable {s : State} {ch : Channel} {t tb cy : Nat}

/-- R69: where the counters stand when REFERENCE ends at a frequency brought. -/
theorem referenceEnd_eq (h : s.converter.stage = .reference ch tb cy) (hp : s.converter.phase < 4000000000)
    (hcy : cy ≤ 1048575) (rate : Nat) :
    let ticks := s.converter.referenceTicks { num := rate, den := 4000000000 } tb cy
    referenceEnd rate s =
      if 1048575 ≤ tb + ticks then conversionDone ch (.error .reference) (s.modOutside (Outside.putReference ch rate))
      else (s.modOutside (Outside.putReference ch rate)).modConverter (Converter.enterSensor ch (tb + ticks)) := by
  intro ticks
  have oscillation : (s.outside.putReference ch rate).onReference ch = { num := rate, den := 4000000000 } := by
    obtain ⟨b, k⟩ := ch
    cases k <;> rfl
  have ends : (s.converter.runOut (s.outside.putReference ch rate)).stage =
      .reference ch (tb + ticks)
        (Converter.wrap (cy + Oscillation.cyclesIn ⟨rate, 4000000000⟩ s.converter.phase ticks)) := by
    rw [Converter.runOut_reference h (oscillation ▸ hp) hcy, Converter.afterReference, oscillation]
  simp only [referenceEnd, h, State.modOutside_outside, ends]
  rfl

/-- R70: the cycles that SENSOR counts on a network brought are judged. -/
theorem sensorEnd_eq (h : s.converter.stage = .sensor ch t tb cy) (ok : s.converter.stage.ok)
    (phase : s.converter.phaseOk s.outside) {input : ChannelInput} {o : Outside}
    (brought : s.outside.putInput ch input = o) :
    sensorEnd input s = conversionDone ch (sensorReading ch.kind (min 1048575 (cy + (o.onNetwork ch).cyclesIn
      (s.converter.phase * o.network ch / s.outside.network ch) tb))) (s.modOutside (Outside.putInput ch input)) := by
  obtain ⟨hp, htb, -⟩ := Converter.sensor_bounds h ok phase
  have hp' : s.converter.phase * o.network ch / s.outside.network ch < (o.onNetwork ch).den :=
    Converter.onNewNetwork_phase_lt (networkOf_pos _ _) (networkOf_pos _ _) hp
  obtain ⟨left, ends⟩ := Converter.runOut_sensor (o := o)
    (c := s.converter.onNewNetwork (s.outside.network ch) (o.network ch)) h hp' htb
  simp only [sensorEnd, h, State.modOutside_outside, brought, ends]
  rfl

end

/-- R70: a count at the limit is SHORT. -/
theorem sensorReading_limit {n : Nat} (k : ChannelKind) (h : n = 1048575) : sensorReading k n = .error .short :=
  if_pos (Nat.le_of_eq h.symm)

/-- R70: a count below 16 is OPEN. -/
theorem sensorReading_few {n : Nat} (k : ChannelKind) (h : n < 16) : sensorReading k n = .error .opened :=
  (if_neg (show ¬1048575 ≤ n by omega)).trans (if_pos h)

/-- R70 to R72: any other count is the result of the channel's kind. -/
theorem sensorReading_counted {n : Nat} (k : ChannelKind) (least : 16 ≤ n) (most : n < 1048575) :
    sensorReading k n = match k with | .fuel => fuelReading n | .probe => probeReading n :=
  (if_neg (Nat.not_le.2 most)).trans (if_neg (Nat.not_lt.2 least))

/-! ## The next head (R81) -/

section
variable {c : Converter} {remaining : Nat}

theorem Converter.takeNext_none (h : c.sweep = none ∨ c.sweep = some []) :
    c.takeNext remaining = { c with stage := .idle, sweep := none } := by
  rcases h with h | h
  · rw [← h]; simp only [takeNext, h]
  · simp only [takeNext, h, closeSweep]

theorem Converter.takeNext_head {ch : Channel} {rest : List Channel} (h : c.sweep = some (ch :: rest)) :
    c.takeNext remaining = if remaining < c.reserveMs then { c with stage := .idle, sweep := none }
      else { c.modChannel ch (fun x => { x with due := none }) with
        stage := .select ch, sweep := some rest, spot := c.spot.erase ch, settle := 4000 } := by
  simp only [takeNext, h]; rfl

end

/-! ## The rows (R68 to R73, R81) -/

theorem Converter.selectEnd_select {c : Converter} {ch : Channel} (h : c.stage = .select ch) :
    c.selectEnd = { c with stage := .reference ch 0 1046528, settle := 0, phase := 0 } := by
  simp only [selectEnd, h]; rfl

theorem Outside.network_eq (o : Outside) (ch : Channel) : o.network ch = match ch.kind with
    | .fuel => (match o.inputs[ch.bay].fuel with | .load r => r + 1000000 | .fault r => max 1 r)
    | .probe => (match o.inputs[ch.bay].probe with | .load r => max 1 r | .fault r => max 1 r) := by
  obtain ⟨b, k⟩ := ch
  cases k with
  | fuel =>
    change networkOf .fuel o.inputs[b].fuel = _
    cases o.inputs[b].fuel with
    | load r => exact Nat.add_comm 1000000 r
    | fault r => rfl
  | probe =>
    change networkOf .probe o.inputs[b].probe = _
    cases o.inputs[b].probe <;> rfl

/-- R69: the wrap of the cycle counter by a tick, at a frequency. -/
theorem wrapped_iff {phase cy rate : Nat} (hp : phase < 4000000000) (hcy : cy ≤ 1048575) (k : Nat) :
    1048576 ≤ cy + Oscillation.cyclesIn ⟨rate, 4000000000⟩ phase k ↔
      (1048576 - cy) * 4000000000 ≤ phase + k * rate := by
  rw [← Oscillation.le_cyclesIn_iff (x := ⟨rate, 4000000000⟩) hp]
  omega

/-- Settles O33: the ticks of a stage by its counters, the rows by where they end a stage. -/
theorem stagesFollowAndGiveAReading : Obligations.StagesFollowAndGiveAReading := by
  unfold Obligations.StagesFollowAndGiveAReading
  intro resistor
  have resistor_eq (ch : Channel) : resistor ch = referenceResistor ch.kind := by
    obtain ⟨b, k⟩ := ch
    cases k <;> rfl
  refine ⟨fun s ch running h => ?_, fun o c ok phase => ⟨Converter.run_zero ok phase, Converter.run_add ok phase,
    fun h => Converter.run_idle h 1, fun ch h => Converter.run_select h 1, fun ch tb cy h => ?_,
    fun ch t tb cy h => ?_⟩, fun o ch => ?_, Outside.network_eq, fun s ch tb cy rate running h ok phase => ?_,
    fun s ch t tb cy input running h ok phase => ?_, fun s b r e => ⟨rfl, rfl, rfl, rfl⟩,
    fun c remaining => ⟨Converter.takeNext_none, fun ch rest h => ⟨fun late => ?_, fun early => ?_⟩⟩⟩
  · refine (whenRunning_of_none running _).trans ?_
    rw [State.modConverter, Converter.selectEnd_select h]
  · intro gone counted
    obtain ⟨hp, htb, hcy⟩ := Converter.reference_bounds h ok phase
    exact ⟨fun ended => Converter.run_reference_ended h hp hcy (by omega) 1,
      fun counts before => Converter.run_reference_one h hp hcy (by omega)⟩
  · intro parts gone
    obtain ⟨hp, htb, hcy⟩ := Converter.sensor_bounds h ok phase
    refine ⟨fun ended => Converter.run_sensor_ended h hp hcy (by omega) 1, fun ticks below => ?_⟩
    rw [Converter.run_sensor_one h hp (by omega), ← resistor_eq]
  · obtain ⟨b, k⟩ := ch
    cases k <;> rfl
  · intro o wrapped
    obtain ⟨hp, htb, hcy⟩ := Converter.reference_bounds h ok phase
    have outside : s.outside.putReference ch rate = o := by
      obtain ⟨b, k⟩ := ch
      cases k <;> rfl
    have row : exec (.referenceEnd rate) s = .next (referenceEnd rate s) := whenRunning_of_none running _
    set ticks := s.converter.referenceTicks ⟨rate, 4000000000⟩ tb cy
    have ended_iff (k : Nat) : ticks ≤ k ↔ wrapped k ∨ 1048575 ≤ tb + k := by
      rw [Converter.referenceTicks_le_iff (x := ⟨rate, 4000000000⟩) hp hcy, wrapped_iff hp hcy, ← or_assoc]
    have ended := (ended_iff ticks).1 le_rfl
    rw [row, referenceEnd_eq h hp hcy]
    refine ⟨fun k inLimit come first => ?_, fun never => ?_⟩
    · have noLater : ticks ≤ k := (ended_iff k).2 (.inl come)
      have noSooner : ¬ticks < k := fun l => first ticks l (ended.resolve_right (by omega))
      obtain rfl : ticks = k := by omega
      rw [if_neg (Nat.not_le.2 inLimit), ← outside]
      rfl
    · have limit : 1048575 ≤ tb + ticks :=
        Nat.not_lt.1 fun inLimit => never ticks inLimit (ended.resolve_right (Nat.not_le.2 inLimit))
      rw [if_pos limit, conversionDone_modOutside, outside]
  · intro o phase' n done fuel
    have outside : s.outside.putInput ch input = o := by
      obtain ⟨b, k⟩ := ch
      cases k <;> rfl
    have row {x : Reading} (reads : sensorReading ch.kind n = x) : done x := by
      refine (whenRunning_of_none running _).trans (congrArg _ ?_)
      have counted : n = min 1048575 (cy + (o.onNetwork ch).cyclesIn phase' tb) := by
        simp only [n, resistor_eq]; rfl
      rw [sensorEnd_eq h ok phase outside, ← counted, reads, conversionDone_modOutside, outside]
    refine ⟨fun limit => row (sensorReading_limit _ limit), fun few => row (sensorReading_few _ few),
      fun least most kind high => row ?_, fun least most kind low => row ?_, fun least most kind => row ?_⟩
    all_goals rw [sensorReading_counted _ least most, kind]
    · exact if_pos high
    · exact if_neg (Nat.not_lt.2 low)
    · rfl
  · rw [Converter.takeNext_head h, if_pos late]
  · rw [Converter.takeNext_head h, if_neg (Nat.not_lt.2 early)]

end Sys2Proof.Machine

namespace Sys2Proof.Machine

/-! # Reading a curve (O38) -/

/-! ## Division to nearest, halves away from zero -/

section
variable {d : Nat}

/-- The quotient times its divisor lies at most half a divisor above the dividend, and less than half below it. -/
theorem divHalfUp_mul_bounds (a : Nat) (hd : 0 < d) :
    2 * (divHalfUp a d * d) ≤ 2 * a + d ∧ 2 * a < 2 * (divHalfUp a d * d) + d := by
  have lower : 2 * divHalfUp a d * d ≤ 2 * a + d := (le_divHalfUp_iff hd).1 le_rfl
  have upper : 2 * a + d < 2 * (divHalfUp a d + 1) * d := (divHalfUp_lt_iff hd).1 (Nat.lt_succ_self _)
  rw [Nat.mul_assoc] at lower upper
  rw [Nat.add_one_mul (divHalfUp a d)] at upper
  exact ⟨lower, by omega⟩

/-- R92: the quotient is nearest to the exact one, and of two nearest the one further from zero. -/
theorem divHalfAway_nearest (n : Int) (hd : 0 < d) :
    2 * (divHalfAway n d * d - n).natAbs ≤ d
      ∧ (2 * (divHalfAway n d * d - n).natAbs = d → n.natAbs < (divHalfAway n d * d).natAbs) := by
  obtain ⟨lower, upper⟩ := divHalfUp_mul_bounds n.natAbs hd
  generalize hm : divHalfUp n.natAbs d * d = m at lower upper
  have product : (divHalfUp n.natAbs d : Int) * d = m := by rw [← hm, Nat.cast_mul]
  rw [divHalfAway]
  split
  next negative => rw [Int.neg_mul, product]; omega
  next natural => rw [product]; omega

/-- A quotient of at most `v` rounds to at most `v`. -/
theorem divHalfUp_le {a v : Nat} (hd : 0 < d) (h : a ≤ v * d) : divHalfUp a d ≤ v := by
  refine Nat.lt_add_one_iff.1 ((divHalfUp_lt_iff hd).2 ?_)
  rw [Nat.mul_assoc, Nat.add_one_mul v]
  omega

/-- R92: the part `r` of `d` of a rise `v` lies between 0 and the rise. -/
theorem divHalfAway_rise {v : Int} {r : Nat} (hv : 0 ≤ v) (hd : 0 < d) (hr : r ≤ d) :
    0 ≤ divHalfAway (v * r) d ∧ divHalfAway (v * r) d ≤ v := by
  obtain ⟨w, rfl⟩ := Int.eq_ofNat_of_zero_le hv
  have small : divHalfUp (w * r) d ≤ w := divHalfUp_le hd (Nat.mul_le_mul_left w hr)
  have value : divHalfAway ((w : Int) * r) d = divHalfUp (w * r) d := by
    rw [← Nat.cast_mul, divHalfAway, if_neg (by omega), Int.natAbs_natCast]
  rw [value]
  omega

theorem divHalfAway_zero (d : Nat) : divHalfAway 0 d = 0 := by
  rcases Nat.eq_zero_or_pos d with rfl | hd
  · rfl
  · have zero : divHalfUp 0 d = 0 := Nat.le_zero.1 (divHalfUp_le hd (Nat.zero_le _))
    rw [divHalfAway, if_neg (Int.lt_irrefl 0), Int.natAbs_zero, zero, Nat.cast_zero]

theorem divHalfAway_neg (n : Int) (d : Nat) : divHalfAway (-n) d = -divHalfAway n d := by
  rcases lt_trichotomy n 0 with negative | rfl | positive
  · rw [divHalfAway, divHalfAway, Int.natAbs_neg, if_neg (by omega), if_pos negative, neg_neg]
  · rw [Int.neg_zero, divHalfAway_zero, Int.neg_zero]
  · rw [divHalfAway, divHalfAway, Int.natAbs_neg, if_pos (by omega), if_neg (by omega)]

/-- R92: the part `r` of `d` of a fall lies between the fall and 0. -/
theorem divHalfAway_fall {v : Int} {r : Nat} (hv : v ≤ 0) (hd : 0 < d) (hr : r ≤ d) :
    v ≤ divHalfAway (v * r) d ∧ divHalfAway (v * r) d ≤ 0 := by
  obtain ⟨least, most⟩ := divHalfAway_rise (v := -v) (by omega) hd hr
  rw [Int.neg_mul, divHalfAway_neg] at least most
  omega

end

/-! ## A segment, and the points behind it (R92) -/

section
variable {p q : Nat × Int} {r : Nat}

theorem interpolate_eq (above : p.1 ≤ r) :
    interpolate p q r = p.2 + divHalfAway ((q.2 - p.2) * ((r - p.1 : Nat) : Int)) (q.1 - p.1) := by
  rw [interpolate, Nat.cast_sub above]

/-- R92: inside a segment a value lies between those of its ends. -/
theorem interpolate_between (above : p.1 < r) (below : r < q.1) :
    (p.2 ≤ interpolate p q r ∧ interpolate p q r ≤ q.2) ∨ (q.2 ≤ interpolate p q r ∧ interpolate p q r ≤ p.2) := by
  have divisor : 0 < q.1 - p.1 := by omega
  have inside : r - p.1 ≤ q.1 - p.1 := by omega
  rw [interpolate_eq above.le]
  rcases Int.le_total p.2 q.2 with rising | falling
  · have := divHalfAway_rise (v := q.2 - p.2) (by omega) divisor inside
    omega
  · have := divHalfAway_fall (v := q.2 - p.2) (by omega) divisor inside
    omega

/-- R92: at a point its own value is read. -/
theorem interpolate_first : interpolate p q p.1 = p.2 := by
  rw [interpolate, sub_self, Int.mul_zero, divHalfAway_zero, Int.add_zero]

/-- R92: at or below the first point its value is read. -/
theorem readFrom_below {rest : List (Nat × Int)} (h : r ≤ p.1) : readFrom r p rest = p.2 := by
  cases rest with
  | nil => rfl
  | cons q rest => rw [readFrom, if_pos h]

theorem readFrom_segment {rest : List (Nat × Int)} (above : p.1 < r) (below : r < q.1) :
    readFrom r p (q :: rest) = interpolate p q r := by
  rw [readFrom, if_neg (Nat.not_le.2 above), if_pos below]

theorem readFrom_behind {rest : List (Nat × Int)} (ascending : p.1 < q.1) (above : q.1 ≤ r) :
    readFrom r p (q :: rest) = readFrom r q rest := by
  rw [readFrom, if_neg (by omega), if_neg (by omega)]

/-- R92: the points before one at or below the resistance are not read. -/
theorem readPoints_behind {init rest : List (Nat × Int)} (ascending : (init ++ p :: rest).Pairwise fun a b => a.1 < b.1)
    (above : p.1 ≤ r) : readPoints r (init ++ p :: rest) = some (readFrom r p rest) := by
  induction init with
  | nil => rfl
  | cons a init ih =>
    obtain ⟨first, others⟩ := List.pairwise_cons.1 ascending
    rw [← ih others]
    cases init with
    | nil => exact congrArg some (readFrom_behind (first p (by simp)) above)
    | cons c init =>
      have before : c.1 < p.1 := (List.pairwise_cons.1 others).1 p (by simp)
      exact congrArg some (readFrom_behind (first c (by simp)) (before.le.trans above))

/-- R92: a value read lies between values of points. -/
theorem readFrom_between (rest : List (Nat × Int)) :
    (∃ a ∈ p :: rest, a.2 ≤ readFrom r p rest) ∧ ∃ a ∈ p :: rest, readFrom r p rest ≤ a.2 := by
  induction rest generalizing p with
  | nil => exact ⟨⟨p, by simp, le_rfl⟩, p, by simp, le_rfl⟩
  | cons q rest ih =>
    rw [readFrom]
    split
    next => exact ⟨⟨p, by simp, le_rfl⟩, p, by simp, le_rfl⟩
    next above =>
      split
      next below =>
        rcases interpolate_between (Nat.not_le.1 above) below with ⟨least, most⟩ | ⟨least, most⟩
        · exact ⟨⟨p, by simp, least⟩, q, by simp, most⟩
        · exact ⟨⟨q, by simp, least⟩, p, by simp, most⟩
      next =>
        obtain ⟨⟨a, ha, least⟩, c, hc, most⟩ := ih (p := q)
        exact ⟨⟨a, List.mem_cons_of_mem p ha, least⟩, c, List.mem_cons_of_mem p hc, most⟩

/-- R92: from a point on, up to the next, the value is the point's and the rounded quotient. -/
theorem readFrom_nearest {rest : List (Nat × Int)} (above : p.1 ≤ r) (below : r < q.1) :
    readFrom r p (q :: rest) = p.2 + divHalfAway ((q.2 - p.2) * ((r : Int) - p.1)) (q.1 - p.1) := by
  rcases Nat.eq_or_lt_of_le above with rfl | inside
  · rw [readFrom_below le_rfl]
    exact interpolate_first.symm
  · exact readFrom_segment inside below

end

/-- Settles O38: the points before the segment are passed over, the segment is read to the nearest value. -/
theorem curveReadsInStraightLines : Obligations.CurveReadsInStraightLines := by
  refine ⟨fun pts r ascending => ⟨?_, ?_, ?_, ?_⟩, fun s kind r => ⟨rfl, fun c => ⟨?_, ?_, ?_⟩⟩⟩
  · rintro p rest rfl below
    exact congrArg some (readFrom_below below)
  · rintro init p rfl above
    exact readPoints_behind ascending above
  · rintro init p q rest rfl above below
    have divisor : 0 < q.1 - p.1 := by omega
    have cast : (q.1 : Int) - p.1 = (q.1 - p.1 : Nat) := by omega
    refine ⟨_, (readPoints_behind ascending above).trans (congrArg some (readFrom_nearest above below)), ?_⟩
    simp only [cast, Int.natAbs_natCast]
    exact divHalfAway_nearest _ divisor
  · intro v read
    cases pts with
    | nil => cases read
    | cons p rest =>
      obtain rfl : readFrom r p rest = v := Option.some.inj read
      exact readFrom_between rest
  · intro empty
    simp only [State.readCurve, empty]
  · intro v stored other
    simp only [State.readCurve, stored, if_neg other]
  · intro v stored same
    simp only [State.readCurve, stored, if_pos same]

end Sys2Proof.Machine

namespace Sys2Proof.Machine

/-! # The commands on curves (O36) -/

theorem curveIx_eq {c : Byte} {ix : Fin 8} (h : c.toNat = ix.val) : curveIx c = some ix := by
  rw [curveIx, dif_pos (h ▸ ix.isLt)]
  exact congrArg some (Fin.ext h)

theorem curveIx_eq_none {c : Byte} (h : 8 ≤ c.toNat) : curveIx c = none := by
  rw [curveIx, dif_neg (Nat.not_lt.2 h)]

/-- R88, Table 32: the points of a FUEL curve as clamped. -/
theorem clampPoint_fuel (p : Word × Half) :
    clampPoint .fuel p = (min 30000 p.1.toNat, ((min 20000 p.2.toNat : Nat) : Int)) := by
  have value : clampInt 0 20000 p.2.toNat = ((min 20000 p.2.toNat : Nat) : Int) := by rw [clampInt]; omega
  rw [clampPoint, clamp_zero, value]

/-- R88, Table 32: the points of a PROBE curve as clamped. -/
theorem clampPoint_probe (p : Word × Half) :
    clampPoint .probe p = (min 1000000 p.1.toNat, min 1500 (max (-400) p.2.toInt)) := by
  rw [clampPoint, clamp_zero, clampInt]

/-- R87: points ascend from each to the next exactly if they ascend from each to all behind it. -/
theorem ascending_iff {pts : List (Nat × Int)} : ascending pts = true ↔ pts.Pairwise fun p q => p.1 < q.1 := by
  have : IsTrans (Nat × Int) fun p q => p.1 < q.1 := ⟨fun _ _ _ => Nat.lt_trans⟩
  rw [← List.isChain_iff_pairwise]
  induction pts with
  | nil => simp [ascending]
  | cons p pts ih =>
    cases pts with
    | nil => simp [ascending]
    | cons q rest =>
      rw [ascending, Bool.and_eq_true, decide_eq_true_iff, List.isChain_cons_cons]
      exact and_congr_right fun _ => ih

section
variable {c k n : Byte} {pts : List (Word × Half)} {s : State} {ix : Fin 8} {kind : ChannelKind}

theorem requestOf_curveWrite (fits : pts.length ≤ 41) :
    requestOf (.curveWrite c k n pts) = some (.curveWrite c k n pts) := if_pos fits

theorem curveWrite_badLength (h : pts.length ≠ n.toNat) : curveWrite c k n pts s = (s, refusal .badLength) := if_pos h

/-- R88: CURVE_WRITE for a curve and a kind. -/
theorem curveWrite_named (len : pts.length = n.toNat) (hc : c.toNat = ix.val) (hk : channelKindOf k = some kind) :
    curveWrite c k n pts s =
      let v : Curve := { kind := kind, points := pts.map (clampPoint kind) }
      if 2 ≤ n.toNat ∧ n.toNat ≤ 9 ∧ v.points.Pairwise (fun p q => p.1 < q.1) then
        (storeCurve ix (some v) s, okay (curveBytes ix (some v)))
      else (s, refusal .badValue) := by
  rw [curveWrite, if_neg (not_not_intro len), curveIx_eq hc, hk]
  simp only [ascending_iff]

/-- R88: a code or a count out of its range. -/
theorem curveWrite_badValue (len : pts.length = n.toNat) (h : 8 ≤ c.toNat ∨ 2 ≤ k.toNat ∨ n.toNat < 2 ∨ 9 < n.toNat) :
    curveWrite c k n pts s = (s, refusal .badValue) := by
  rw [curveWrite, if_neg (not_not_intro len)]
  rcases h with noCurve | noKind | count
  · rw [curveIx_eq_none noCurve]
  · rw [channelKindOf_eq_none noKind]
    cases curveIx c <;> rfl
  · split
    next => exact if_neg (by omega)
    next => rfl

theorem curveClear_bad (h : 8 ≤ c.toNat) : curveClear c s = (s, refusal .badValue) := by
  rw [curveClear, curveIx_eq_none h]

/-- R90: CURVE_CLEAR of an empty curve. -/
theorem curveClear_empty (hc : c.toNat = ix.val) (h : s.curves[ix] = none) : curveClear c s = (s, okay []) := by
  rw [curveClear, curveIx_eq hc]
  simp only [h]

/-- R90: CURVE_CLEAR of a curve that holds points. -/
theorem curveClear_stored {v : Curve} (hc : c.toNat = ix.val) (h : s.curves[ix] = some v) :
    curveClear c s = (storeCurve ix none s, okay []) := by
  rw [curveClear, curveIx_eq hc]
  simp only [h]

end

/-- Settles O36: CURVE_WRITE and CURVE_CLEAR by their checks in order. -/
theorem curveCommandsStoreAndClear : Obligations.CurveCommandsStoreAndClear := by
  intro s c k n pts ready fits clamped answers
  have write {t : State} {a : Answer} (h : curveWrite c k n pts s = (t, a)) : answers t a :=
    exec_answers (requestOf_curveWrite fits) ready h
  have points (kind : ChannelKind) : clamped kind = pts.map (clampPoint kind) := by
    cases kind with
    | fuel => exact List.map_congr_left fun p _ => (clampPoint_fuel p).symm
    | probe => exact List.map_congr_left fun p _ => (clampPoint_probe p).symm
  refine ⟨fun len => write (curveWrite_badLength len), fun len bad => write (curveWrite_badValue len bad),
    fun ix kind len hc hk least most => ?_, fun bad => exec_answers rfl ready (curveClear_bad bad),
    fun ix hc => ⟨fun empty => exec_answers rfl ready (curveClear_empty hc empty),
      fun v stored => exec_answers rfl ready (curveClear_stored hc stored)⟩⟩
  rw [points kind]
  have named := curveWrite_named (s := s) len hc hk
  exact ⟨fun mixed => write (named.trans (if_neg fun h => mixed h.2.2)),
    fun ascends => write (named.trans (if_pos ⟨least, most, ascends⟩))⟩

/-! # A change of a curve (O37) -/

/-- R89: the record's side of a change of a curve, field by field. -/
theorem Record.curveChanged_eq (c : Fin 8) (r : Record) : r.curveChanged c = { r with
    fuel := if r.settings.fuelCurve = some c then { r.fuel with filtered := none, baseline := none } else r.fuel
    probe := if r.settings.probeCurve = some c then { r.probe with coil := none } else r.probe } := by
  rw [Record.curveChanged]
  split <;> split <;> rfl

theorem fuelBound_iff {s : State} {c : Fin 8} {b : Bay} :
    s.fuelBound c b = true ↔ ∃ r, s.recordAt b = some r ∧ r.settings.fuelCurve = some c := by
  rw [State.fuelBound]
  cases s.recordAt b with
  | none => simp only [Bool.false_eq_true, reduceCtorEq, false_and, exists_false]
  | some r => simp only [beq_iff_eq, Option.some.injEq, exists_eq_left']

/-- R107: the conditions of a bay after a restart of the filter. -/
def Conditions.unjudged (x : Conditions) : Conditions := { x with fuelLow := false, fuelDrop := false }

/-- R106, R107: the reports of a restart of the filter at a bay whose conditions are `x`. -/
def Notices.endJudgements (now : Round) (x : Conditions) (b : Bay) (n : Notices) : Notices :=
  let low := if x.fuelLow = true then n.cease now (.bay .fuelLow b) else n
  if x.fuelDrop = true then low.cease now (.bay .fuelDrop b) else low

theorem endFuelJudgements_eq (b : Bay) (s : State) : endFuelJudgements b s = { s with
    conditions := s.conditions.set b.val s.conditions[b].unjudged
    notices := s.notices.endJudgements s.timer.number s.conditions[b] b } := by
  rw [endFuelJudgements_frame]
  simp only [endFuelJudgements, State.modCond_conditions, State.modCond_notices, ceaseIf_conditions, ceaseIf_notices,
    ceaseIf_timer, Notices.endJudgements]
  rfl

namespace Notices

section
variable {now : Round} {x : Conditions} {b : Bay} {k : Key} {n : Notices}

/-- A cease report brings no flag back. -/
theorem flag_cease_absent (l : Key) (h : n.flag k = false) : (n.cease now l).flag k = false := by
  rw [flag_cease, h, ite_self]

theorem flag_endJudgements_absent (h : n.flag k = false) : (n.endJudgements now x b).flag k = false := by
  rw [endJudgements]
  split <;> split <;> simp only [flag_cease_absent, h]

theorem flag_endJudgements_low (low : x.fuelLow = true) : (n.endJudgements now x b).flag (.bay .fuelLow b) = false := by
  have ceased : (n.cease now (.bay .fuelLow b)).flag (.bay .fuelLow b) = false := by rw [flag_cease, if_pos rfl]
  rw [endJudgements, if_pos low]
  split
  · exact flag_cease_absent _ ceased
  · exact ceased

theorem flag_endJudgements_drop (drop : x.fuelDrop = true) :
    (n.endJudgements now x b).flag (.bay .fuelDrop b) = false := by
  rw [endJudgements, if_pos drop, flag_cease, if_pos rfl]

/-- A flag that the work of one bay takes back, and no bay's work brings back, is absent after the work of all. -/
theorem flag_foldl_absent {work : Notices → Bay → Notices} {bays : List Bay}
    (keeps : ∀ n a, n.flag k = false → (work n a).flag k = false) (ends : ∀ n, (work n b).flag k = false) (mem : b ∈ bays) :
    (bays.foldl work n).flag k = false := by
  obtain ⟨before, behind, rfl⟩ := List.append_of_mem mem
  rw [List.foldl_append, List.foldl_cons]
  exact List.foldlRecOn behind work (ends _) fun m hm a _ => keeps m a hm

end

end Notices

/-! ## The judgements of several bays -/

/-- R107: the judgements end at each bay once, on the conditions that stood before. -/
theorem forBays_endFuelJudgements {bays : List Bay} (once : bays.Nodup) (s : State) :
    ∃ conditions : Vector Conditions 16,
      (∀ b : Bay, conditions[b] = if b ∈ bays then s.conditions[b].unjudged else s.conditions[b])
        ∧ forBays endFuelJudgements bays s = { s with
            conditions := conditions
            notices := bays.foldl (fun n b => n.endJudgements s.timer.number s.conditions[b] b) s.notices } := by
  induction bays generalizing s with
  | nil => exact ⟨s.conditions, fun _ => rfl, rfl⟩
  | cons a rest ih =>
    obtain ⟨new, others⟩ := List.nodup_cons.1 once
    obtain ⟨conditions, each, all⟩ := ih others (endFuelJudgements a s)
    rw [endFuelJudgements_eq] at each all
    have apart {b : Bay} (h : b ≠ a) : (s.conditions.set a.val s.conditions[a].unjudged)[b] = s.conditions[b] :=
      vector_set_other _ _ h
    refine ⟨conditions, fun b => ?_, ?_⟩
    · rw [each b]
      by_cases first : b = a
      · subst first
        rw [if_neg new, vector_set_same, if_pos List.mem_cons_self]
      · simp only [apart first, List.mem_cons, first, false_or]
    · have reports : rest.foldl (fun n b => n.endJudgements s.timer.number
          (s.conditions.set a.val s.conditions[a].unjudged)[b] b) (s.notices.endJudgements s.timer.number s.conditions[a] a)
          = rest.foldl (fun n b => n.endJudgements s.timer.number s.conditions[b] b)
            (s.notices.endJudgements s.timer.number s.conditions[a] a) :=
        List.foldl_ext _ _ _ fun n b hb => by rw [apart fun e => new (e ▸ hb)]
      rw [forBays, List.foldl_cons, List.foldl_cons, ← reports, endFuelJudgements_eq]
      exact all

/-- Settles O37: the records as restarted, the conditions and reports of the bays bound to the curve. -/
theorem curveChangeRestartsBoundRecords : Obligations.CurveChangeRestartsBoundRecords := by
  intro s c v t
  obtain ⟨conditions, each, all⟩ := forBays_endFuelJudgements (allBays_nodup.filter (s.fuelBound c))
    { s with curves := s.curves.set c.val v, table := s.table.map (Option.map (Record.curveChanged c)) }
  have stored : t = _ := all
  have bound (b : Bay) : b ∈ allBays.filter (s.fuelBound c) ↔ s.fuelBound c b = true := by
    rw [List.mem_filter, and_iff_right (mem_allBays b)]
  have notices := congrArg State.notices stored
  refine ⟨congrArg State.curves stored, fun i => ?_, fun b free => ?_,
    fun b restarted => ⟨?_, fun low => ?_, fun drop => ?_⟩, fun b => fuelBound_iff, notices, ?_⟩
  · rw [stored]
    show (s.table.map (Option.map (Record.curveChanged c)))[i.val] = _
    rw [Vector.getElem_map, funext (Record.curveChanged_eq c)]
    rfl
  · rw [stored]
    exact (each b).trans (if_neg fun mem => by rw [(bound b).1 mem] at free; cases free)
  · rw [stored]
    exact (each b).trans (if_pos ((bound b).2 restarted))
  · rw [notices]
    exact Notices.flag_foldl_absent (fun _ _ => Notices.flag_endJudgements_absent)
      (fun _ => Notices.flag_endJudgements_low low) ((bound b).2 restarted)
  · rw [notices]
    exact Notices.flag_foldl_absent (fun _ _ => Notices.flag_endJudgements_absent)
      (fun _ => Notices.flag_endJudgements_drop drop) ((bound b).2 restarted)
  · rw [stored]

end Sys2Proof.Machine

namespace Sys2Proof.Machine

/-! # The results and errors of a conversion (O39, O40) -/

/-! ## The parked record and the reports -/

section
variable {s : State} {b : Bay} {i : SlotIx} {r : Record}

theorem State.modParked_eq_putSlot (hi : s.bays[b].ref = some i) (hr : s.table[i] = some r) (f : Record → Record) :
    s.modParked b f = s.putSlot i (some (f r)) := by
  rw [State.modParked_of_ref hi, State.modSlot, hr, Option.map_some]

/-- A second change of the parked record. -/
theorem State.modParked_putSlot (hi : s.bays[b].ref = some i) (x : Record) (f : Record → Record) :
    (s.putSlot i (some x)).modParked b f = s.putSlot i (some (f x)) := by
  rw [State.modParked_eq_putSlot (s := s.putSlot i (some x)) hi (vector_set_same _ _ _)]
  exact congrArg (fun table => { s with table := table }) (vector_set_set _ _ _ _)

theorem State.modParked_modCond (f : Record → Record) (g : Conditions → Conditions) :
    (s.modCond b g).modParked b f = (s.modParked b f).modCond b g := by
  cases hi : s.bays[b].ref with
  | none => rw [State.modParked_of_no_ref hi, State.modParked_of_no_ref (s := s.modCond b g) hi]
  | some i => rw [State.modParked_of_ref hi, State.modParked_of_ref (s := s.modCond b g) hi]; rfl

theorem modParked_ceaseIf (p : Bool) (k : BayKind) (f : Record → Record) :
    (ceaseIf p k b s).modParked b f = ceaseIf p k b (s.modParked b f) := by
  cases p with
  | false => rfl
  | true =>
    cases hi : s.bays[b].ref with
    | none => rw [State.modParked_of_no_ref hi, State.modParked_of_no_ref (s := ceaseIf true k b s) hi]
    | some i => rw [State.modParked_of_ref hi, State.modParked_of_ref (s := ceaseIf true k b s) hi]; rfl

/-- Conditions that a change leaves as they stand. -/
theorem State.modCond_same {f : Conditions → Conditions} (h : f s.conditions[b] = s.conditions[b]) :
    s.modCond b f = s := by
  rw [State.modCond, h, vector_set_self]

/-- R106, R154: what a change of presence, or none, reports. -/
theorem report_eq (before after : Bool) (k : BayKind) (n : Option TrailerNo) (v : NoticeValue) :
    report before after k b n v s =
      if after = before then s else if after then presentAt k b n (some v) s else ceaseAt k b s := by
  cases before <;> cases after <;> rfl

end

/-! ## A FUEL result (R95 to R103) -/

theorem settled_iff {d : DoorWatch} : settled d = true ↔ d.figures.state = .shut ∧ d.settle = 0 := by
  rw [settled, Bool.and_eq_true, beq_iff_eq, decide_eq_true_iff]

theorem fuelLowAfter_eq (before : Bool) (f : Int) (low : Nat) :
    fuelLowAfter before f low = decide (f < (low : Int) + if before then 20 else 0) := by
  cases before with
  | true => rfl
  | false => rw [fuelLowAfter, if_neg Bool.false_ne_true, if_neg Bool.false_ne_true, Int.add_zero]

section
variable {s : State} {b : Bay} {i : SlotIx} {r : Record}

/-- R95, R105: the state behind a settled sample, before its value is judged. -/
def sampleSettled (b : Bay) (i : SlotIx) (r : Record) (res : Nat) (level : Option Int) (s : State) : State :=
  (ceaseIf s.conditions[b].senderFault .senderFault b (s.putSlot i (some { r with
    fuel := { (r.sampled res s.timer.number level).fuel with errorRun := 0 } }))).modCond b
      fun c => { c with senderFault := false }

/-- R95: a FUEL result at a bay with a record, step by step. -/
theorem fuelResult_eq (hi : s.bays[b].ref = some i) (hr : s.table[i] = some r) (res : Nat) : fuelResult b res s =
    let level := s.readCurve .fuel r.settings.fuelCurve res
    if settled s.doors[b] then
      match level with
      | none => sampleSettled b i r res level s
      | some l => filteredUpdate b r l (sampleSettled b i r res level s)
    else s.putSlot i (some (r.sampled res s.timer.number level)) := by
  rw [fuelResult, State.recordAt_eq_some.2 ⟨i, hi, hr⟩]
  simp only [State.modParked_eq_putSlot hi hr, State.modParked_putSlot hi]
  rfl

/-- R96: an unsettled sample. -/
theorem fuelResult_unsettled (hi : s.bays[b].ref = some i) (hr : s.table[i] = some r) {res : Nat}
    (moving : ¬settled s.doors[b] = true) : fuelResult b res s =
      s.putSlot i (some (r.sampled res s.timer.number (s.readCurve .fuel r.settings.fuelCurve res))) := by
  rw [fuelResult_eq hi hr, if_neg moving]

/-- R93: a settled sample with no value. -/
theorem fuelResult_noValue (hi : s.bays[b].ref = some i) (hr : s.table[i] = some r) {res : Nat}
    (still : settled s.doors[b] = true) (absent : s.readCurve .fuel r.settings.fuelCurve res = none) :
    fuelResult b res s = sampleSettled b i r res (s.readCurve .fuel r.settings.fuelCurve res) s := by
  rw [fuelResult_eq hi hr, if_pos still, absent]

/-- R95: a settled sample with a value. -/
theorem fuelResult_value (hi : s.bays[b].ref = some i) (hr : s.table[i] = some r) {res : Nat} {l : Int}
    (still : settled s.doors[b] = true) (value : s.readCurve .fuel r.settings.fuelCurve res = some l) :
    fuelResult b res s =
      filteredUpdate b r l (sampleSettled b i r res (s.readCurve .fuel r.settings.fuelCurve res) s) := by
  rw [fuelResult_eq hi hr, if_pos still, value]

/-- R98 to R103: the judged state behind a filtered update of a settled sample. -/
theorem filteredUpdate_sampleSettled (hi : s.bays[b].ref = some i) (res : Nat) (level : Option Int) (l : Int) :
    filteredUpdate b r l (sampleSettled b i r res level s) =
      let f := filterStep s.smoothShift r.fuel.filtered l
      let base := baselineStep r.fuel.baseline f
      let low := fuelLowAfter s.conditions[b].fuelLow f r.settings.lowFuel
      let drop := fuelDropAfter (base - f) r.settings.dropThreshold
      let judged := (s.putSlot i (some { r with fuel := { (r.sampled res s.timer.number level).fuel with
        errorRun := 0, filtered := some f, baseline := some base } })).modCond b
          fun c => { c with senderFault := false, fuelLow := low, fuelDrop := drop }
      report s.conditions[b].fuelDrop drop .fuelDrop b (some r.number) (.level (base - f))
        (report s.conditions[b].fuelLow low .fuelLow b (some r.number) (.level f)
          (ceaseIf s.conditions[b].senderFault .senderFault b judged)) := by
  have shift : (sampleSettled b i r res level s).smoothShift = s.smoothShift := by
    simp only [sampleSettled, State.modCond_smoothShift, ceaseIf_smoothShift, State.putSlot_smoothShift]
  have conditions : (sampleSettled b i r res level s).conditions[b] = { s.conditions[b] with senderFault := false } := by
    simp only [sampleSettled, State.modCond_conditions, ceaseIf_conditions, State.putSlot_conditions, vector_set_same]
  simp only [filteredUpdate, shift, conditions]
  simp only [sampleSettled, State.modParked_modCond, modParked_ceaseIf, State.modParked_putSlot hi,
    State.modCond_modCond, ceaseIf_modCond]

end

/-- Settles O39: the sample as written, and the filtered update of a settled one with a value. -/
theorem fuelResultFiltersAndJudges : Obligations.FuelResultFiltersAndJudges := by
  intro s b i r res hi hr level isSettled sampled put
  refine ⟨fun moving => fuelResult_unsettled hi hr fun h => moving (settled_iff.1 h),
    fun still absent => fuelResult_noValue hi hr (settled_iff.2 still) absent, ?_⟩
  intro l still value f base wasLow low wasDrop drop judged first second third
  rw [fuelResult_value hi hr (settled_iff.2 still) value, filteredUpdate_sampleSettled hi]
  simp only [report_eq, fuelLowAfter_eq]
  rfl

/-! ## Errors, and a PROBE result (R104, R105, R110 to R112, R118) -/

section
variable {s : State} {b : Bay} {i : SlotIx} {r : Record}

theorem fuelError_eq (hi : s.bays[b].ref = some i) (hr : s.table[i] = some r) (e : ErrorKind) : fuelError b e s =
    let run := min 255 (r.fuel.errorRun + 1)
    let counted := s.putSlot i (some { r with fuel := { r.fuel with errorRun := run, lastError := e } })
    if 3 ≤ run then report s.conditions[b].senderFault true .senderFault b (some r.number) (.error e)
      (counted.modCond b fun c => { c with senderFault := true })
    else counted := by
  rw [fuelError, State.recordAt_eq_some.2 ⟨i, hi, hr⟩]
  simp only [State.modParked_eq_putSlot hi hr]
  rfl

theorem probeError_eq (hi : s.bays[b].ref = some i) (hr : s.table[i] = some r) (e : ErrorKind) : probeError b e s =
    let run := min 255 (r.probe.errorRun + 1)
    let counted := s.putSlot i (some { r with probe := { r.probe with errorRun := run, lastError := e } })
    if 2 ≤ run then report s.conditions[b].probeFault true .probeFault b (some r.number) (.error e)
      (counted.modCond b fun c => { c with probeFault := true })
    else counted := by
  rw [probeError, State.recordAt_eq_some.2 ⟨i, hi, hr⟩]
  simp only [State.modParked_eq_putSlot hi hr]
  rfl

/-- R105, R112: a run of errors of `limit` or more makes the fault present and reports it where it was not. -/
theorem faultAfterRun {run limit : Nat} {present : Bool} {k : BayKind} {n : Option TrailerNo} {v : NoticeValue}
    {f : Conditions → Conditions} {t : State} (stays : present = true → f s.conditions[b] = s.conditions[b])
    (result : t = if limit ≤ run then report present true k b n v (s.modCond b f) else s) :
    (run < limit → t = s) ∧ (limit ≤ run → present = true → t = s)
      ∧ (limit ≤ run → present = false → t = presentAt k b n (some v) (s.modCond b f)) := by
  subst result
  refine ⟨fun few => if_neg (Nat.not_le.2 few), fun many old => ?_, fun many new => ?_⟩
  · rw [if_pos many, State.modCond_same (stays old), old]; rfl
  · rw [if_pos many, new]; rfl

/-- R110: the state behind a PROBE result, before the defrost is judged. -/
def coilWritten (b : Bay) (i : SlotIx) (written : Record) (s : State) : State :=
  (ceaseIf s.conditions[b].probeFault .probeFault b (s.putSlot i (some written))).modCond b
    fun c => { c with probeFault := false }

theorem probeResult_eq (hi : s.bays[b].ref = some i) (hr : s.table[i] = some r) (res : Nat) : probeResult b res s =
    let coil := s.readCurve .probe r.settings.probeCurve res
    let cleared := coilWritten b i { r with
      probe := { r.probe with lastResistance := some res, errorRun := 0, coil := coil } } s
    match r.defrost.state, coil with
    | .heating _, some t => if r.settings.termination ≤ t then endHeating b r cleared else cleared
    | _, _ => cleared := by
  rw [probeResult, State.recordAt_eq_some.2 ⟨i, hi, hr⟩]
  simp only [State.modParked_eq_putSlot hi hr]
  rfl

/-- R110: a PROBE result with no defrost to end. -/
theorem probeResult_cold (hi : s.bays[b].ref = some i) (hr : s.table[i] = some r) {res : Nat}
    (cold : ∀ g t, r.defrost.state = .heating g → s.readCurve .probe r.settings.probeCurve res = some t →
      t < r.settings.termination) :
    probeResult b res s = coilWritten b i { r with probe := { r.probe with
      lastResistance := some res, errorRun := 0, coil := s.readCurve .probe r.settings.probeCurve res } } s := by
  rw [probeResult_eq hi hr]
  simp only
  split
  next g t heating warm => exact if_neg (Int.not_le.2 (cold g t heating warm))
  next => rfl

/-- R118: a PROBE result that ends the heating. -/
theorem probeResult_reached (hi : s.bays[b].ref = some i) (hr : s.table[i] = some r) {res : Nat} {g : DefrostClass}
    {t : Int} (heating : r.defrost.state = .heating g) (warm : s.readCurve .probe r.settings.probeCurve res = some t)
    (reached : r.settings.termination ≤ t) :
    probeResult b res s = endHeating b r (coilWritten b i { r with probe := { r.probe with
      lastResistance := some res, errorRun := 0, coil := s.readCurve .probe r.settings.probeCurve res } } s) := by
  rw [probeResult_eq hi hr]
  simp only [heating, warm, if_pos reached]

end

/-- Settles O40: the errors by their runs, a PROBE result by the defrost and the coil temperature. -/
theorem errorsAndProbeResults : Obligations.ErrorsAndProbeResults := by
  intro s b i r hi hr
  refine ⟨fun e => faultAfterRun (fun present => ?_) (fuelError_eq hi hr e),
    fun e => faultAfterRun (fun present => ?_) (probeError_eq hi hr e), fun res => ?_⟩
  · exact present ▸ rfl
  · exact present ▸ rfl
  · intro coil written cleared
    exact ⟨probeResult_cold hi hr, fun g t heating warm reached => probeResult_reached hi hr heating warm reached⟩

end Sys2Proof.Machine

namespace Sys2Proof.Machine

/-! # Permits, grants and HEATING records, bay by bay (O58)

`HeatInv` compares at each bay the permit, the grant and the record. `HeatWith` says the same of a list of bays in place
of the grant list, so that the list can be followed on its own. An operation at one bay leaves the others as they stand
(`HeatBut`); where it leaves the bay without permit, grant and HEATING record (`Cold`), all bays agree again. -/

/-! ## Whether a bay's record is HEATING -/

section
variable {s t : State} {b : Bay}

theorem heatingAt_of_none (h : s.recordAt b = none) : s.heatingAt b = false := by rw [State.heatingAt, h]

theorem heatingAt_of_record {r : Record} (h : s.recordAt b = some r) (cold : ∀ g, r.defrost.state ≠ .heating g) :
    s.heatingAt b = false := by
  rw [State.heatingAt, h]
  cases hd : r.defrost.state with
  | heating g => exact absurd hd (cold g)
  | _ => simp only [hd]

theorem heatingAt_iff :
    s.heatingAt b = true ↔ ∃ g, (s.recordAt b).map (·.defrost.state) = some (.heating g) := by
  unfold State.heatingAt
  cases s.recordAt b with
  | none => simp
  | some r => cases hd : r.defrost.state <;> simp [hd]

/-- Only the defrost state of the bay's record matters. -/
theorem heatingAt_congr (h : (t.recordAt b).map (·.defrost.state) = (s.recordAt b).map (·.defrost.state)) :
    t.heatingAt b = s.heatingAt b := by
  rw [Bool.eq_iff_iff, heatingAt_iff, heatingAt_iff, h]

/-- A bay that refers to the slot it did, with what that slot held. -/
theorem recordAt_congr (ref : t.bays[b].ref = s.bays[b].ref)
    (record : ∀ i, s.bays[b].ref = some i → t.table[i] = s.table[i]) : t.recordAt b = s.recordAt b := by
  unfold State.recordAt
  rw [ref]
  cases h : s.bays[b].ref with
  | none => rfl
  | some i => exact record i h

/-- The parked record is left in a state other than HEATING. -/
theorem heatingAt_modParked {f : Record → Record} (hf : ∀ r g, (f r).defrost.state ≠ .heating g) :
    (s.modParked b f).heatingAt b = false := by
  cases hi : s.bays[b].ref with
  | none =>
    rw [State.modParked_of_no_ref hi]
    exact heatingAt_of_none (State.recordAt_of_no_ref hi)
  | some i =>
    rw [State.modParked_of_ref hi]
    have record : (s.modSlot i f).recordAt b = s.table[i].map f := by
      rw [State.recordAt_of_ref (s := s.modSlot i f) hi, State.modSlot_table, vector_set_same]
    cases hr : s.table[i] with
    | none => rw [hr] at record; exact heatingAt_of_none record
    | some r => rw [hr] at record; exact heatingAt_of_record record (hf r)

end

/-! ## References (R7) -/

section
variable {s t : State} {b c : Bay} {i : SlotIx} {r : Record}

/-- R7: the record a bay refers to is PARKED there. -/
theorem RefsParked.parked (h : RefsParked s) (hi : s.bays[b].ref = some i) (hr : s.table[i] = some r) :
    r.place.bay? = some b := by
  obtain ⟨q, hq, hp⟩ := (h b i).1 hi
  rw [hr] at hq
  exact Option.some.inj hq ▸ hp

/-- R7: the bay of a PARKED record refers to it. -/
theorem RefsParked.ref (h : RefsParked s) (hr : s.table[i] = some r) (hp : r.place.bay? = some b) :
    s.bays[b].ref = some i := (h b i).2 ⟨r, hr, hp⟩

/-- R7: no two bays refer to one record. -/
theorem RefsParked.unique (h : RefsParked s) (hb : s.bays[b].ref = some i) (hc : s.bays[c].ref = some i) : c = b := by
  obtain ⟨r, hr, hp⟩ := (h b i).1 hb
  exact Option.some.inj ((h.parked hc hr).symm.trans hp)

theorem RefsParked.of_same (h : RefsParked s) (g : SameRegistry s t) : RefsParked t := h.of_records g.records g.ref

end

/-! ## The agreement with a list of granted bays -/

/-- R127: the bays of the grant list, oldest grant first. -/
def State.granted (s : State) : List Bay := s.feeder.grants.map (·.bay)

/-- R109, R120, R127: what `HeatInv` asks of one bay where the bays of `granted` hold a grant. -/
def HeatAt (granted : List Bay) (b : Bay) (s : State) : Prop :=
  (s.heat[b] = true ↔ s.heatingAt b = true) ∧ (b ∈ granted ↔ s.heatingAt b = true)
    ∧ (s.heatingAt b = true → s.bays[b].state = .serving)

/-- R6, R10: a record that is not PARKED is IDLE. -/
def UnparkedIdle (s : State) : Prop := ∀ i : SlotIx, ∀ r ∈ s.table[i], r.place.bay? = none → r.defrost.state = .idle

/-- Permits, HEATING records and the granted bays agree. -/
structure HeatWith (granted : List Bay) (s : State) : Prop where
  bays : ∀ b, HeatAt granted b s
  nodup : granted.Nodup
  unparked : UnparkedIdle s

/-- They agree at every bay but one. -/
structure HeatBut (granted : List Bay) (b : Bay) (s : State) : Prop where
  others : ∀ c, c ≠ b → HeatAt granted c s
  nodup : granted.Nodup
  unparked : UnparkedIdle s

/-- A bay without a permit whose record, if it has one, is not HEATING. -/
structure Cold (b : Bay) (s : State) : Prop where
  record : s.heatingAt b = false
  permit : s.heat[b] = false

theorem heatInv_iff {s : State} : HeatInv s ↔ HeatWith s.granted s :=
  ⟨fun ⟨bays, nodup, unparked⟩ => ⟨bays, nodup, unparked⟩, fun h => ⟨h.bays, h.nodup, h.unparked⟩⟩

section
variable {granted : List Bay} {s t : State} {b : Bay}

theorem HeatAt.congr (h : HeatAt granted b s) (heating : t.heatingAt b = s.heatingAt b) (permit : t.heat[b] = s.heat[b])
    (state : t.bays[b].state = s.bays[b].state) : HeatAt granted b t := by
  unfold HeatAt
  rw [heating, permit, state]
  exact h

theorem HeatWith.but (h : HeatWith granted s) (b : Bay) : HeatBut granted b s :=
  ⟨fun c _ => h.bays c, h.nodup, h.unparked⟩

theorem HeatBut.with (h : HeatBut granted b s) (hb : HeatAt granted b s) : HeatWith granted s := by
  refine ⟨fun c => ?_, h.nodup, h.unparked⟩
  by_cases hc : c = b
  · rw [hc]; exact hb
  · exact h.others c hc

/-- A bay that is cold and holds no grant agrees. -/
theorem HeatBut.cold (h : HeatBut granted b s) (ungranted : b ∉ granted) (cold : Cold b s) : HeatWith granted s :=
  h.with ⟨by rw [cold.record, cold.permit], by rw [cold.record]; exact iff_of_false ungranted nofun,
    by rw [cold.record]; nofun⟩

/-- Where permits and records agree, a bay without a HEATING record is cold and holds no grant. -/
theorem HeatWith.cold (h : HeatWith granted s) (hb : s.heatingAt b = false) : Cold b s ∧ b ∉ granted := by
  obtain ⟨permit, grant, -⟩ := h.bays b
  rw [hb] at permit grant
  exact ⟨⟨hb, Bool.eq_false_iff.2 fun on => Bool.false_ne_true (permit.1 on)⟩,
    fun held => Bool.false_ne_true (grant.1 held)⟩

theorem HeatWith.cold_of_not_serving (h : HeatWith granted s) (hb : s.bays[b].state ≠ .serving) :
    s.heatingAt b = false := Bool.eq_false_iff.2 fun heating => hb ((h.bays b).2.2 heating)

/-- R139: the grant of the bay left out is released. -/
theorem HeatBut.drop (h : HeatBut granted b s) : HeatBut (granted.filter (· != b)) b s := by
  refine ⟨fun c hc => ?_, h.nodup.filter _, h.unparked⟩
  obtain ⟨permit, grant, serving⟩ := h.others c hc
  refine ⟨permit, ?_, serving⟩
  rw [List.mem_filter, ← grant]
  exact and_iff_left (by simpa using hc)

/-- R137: a grant is given to the bay left out. -/
theorem HeatBut.add (h : HeatBut granted b s) (new : b ∉ granted) : HeatBut (granted ++ [b]) b s := by
  refine ⟨fun c hc => ?_, List.nodup_append.2 ⟨h.nodup, List.nodup_singleton b, ?_⟩, h.unparked⟩
  · obtain ⟨permit, grant, serving⟩ := h.others c hc
    refine ⟨permit, ?_, serving⟩
    rw [List.mem_append, List.mem_singleton, ← grant]
    exact or_iff_left hc
  · rintro x hx y hy rfl
    exact new (List.mem_singleton.1 hy ▸ hx)

/-- Work that leaves every other bay, its permit and its record as they are. -/
theorem HeatBut.away (h : HeatBut granted b s) (bays : ∀ c : Bay, c ≠ b → t.bays[c].core = s.bays[c].core)
    (records : ∀ c : Bay, c ≠ b → ∀ i, s.bays[c].ref = some i → t.table[i] = s.table[i])
    (permits : ∀ c : Bay, c ≠ b → t.heat[c] = s.heat[c]) (unparked : UnparkedIdle t) : HeatBut granted b t := by
  refine ⟨fun c hc => (h.others c hc).congr ?_ (permits c hc) (congrArg (·.1) (bays c hc)), h.nodup, unparked⟩
  have record := recordAt_congr (congrArg (·.2.2) (bays c hc)) (records c hc)
  exact heatingAt_congr (by rw [record])

theorem HeatBut.modFeeder (h : HeatBut granted b s) (f : Feeder → Feeder) : HeatBut granted b (s.modFeeder f) :=
  ⟨h.others, h.nodup, h.unparked⟩

theorem HeatBut.modBay (h : HeatBut granted b s) (f : BayCtl → BayCtl) : HeatBut granted b (s.modBay b f) :=
  h.away (AwayFrom.modBay f).bays (fun _ _ _ _ => rfl) (fun _ _ => rfl) h.unparked

theorem HeatBut.setHeat (h : HeatBut granted b s) (on : Bool) : HeatBut granted b (s.setHeat b on) :=
  h.away (fun _ _ => rfl) (fun _ _ _ _ => rfl)
    (fun c hc => by rw [State.setHeat_heat, vector_set_other _ _ hc]) h.unparked

/-- A change of the record the bay refers to, which leaves it PARKED or IDLE. -/
theorem HeatBut.modParked (h : HeatBut granted b s) (refs : RefsParked s) {f : Record → Record}
    (hf : ∀ r, (f r).place.bay? = r.place.bay? ∨ (f r).defrost.state = .idle) :
    HeatBut granted b (s.modParked b f) := by
  cases hi : s.bays[b].ref with
  | none => rw [State.modParked_of_no_ref hi]; exact h
  | some i =>
    obtain ⟨r, hr, hp⟩ := (refs b i).1 hi
    rw [State.modParked_eq_putSlot hi hr]
    refine h.away (fun _ _ => rfl) (fun c hc j hj => ?_) (fun _ _ => rfl) fun j q hq away => ?_
    · exact vector_set_other _ _ fun e => hc (refs.unique hi (e ▸ hj))
    · rw [State.putSlot_table, vector_set_get] at hq
      split at hq
      · cases hq
        rcases hf r with same | idle
        · rw [same, hp] at away; cases away
        · exact idle
      · exact h.unparked j q hq away

end

/-! ## Work that changes nothing of it -/

/-- Two states agree in their registries, in the defrost states of their records, in permits and in granted bays. -/
structure SameHeat (s t : State) : Prop extends SameRegistry s t where
  defrost : ∀ i : SlotIx, t.table[i].map (·.defrost.state) = s.table[i].map (·.defrost.state)
  heat : t.heat = s.heat
  granted : t.granted = s.granted

theorem SameHeat.refl (s : State) : SameHeat s s := ⟨.refl s, fun _ => rfl, rfl, rfl⟩

theorem SameHeat.trans {s t u : State} (h : SameHeat s t) (g : SameHeat t u) : SameHeat s u :=
  ⟨h.toSameRegistry.trans g.toSameRegistry, fun i => (g.defrost i).trans (h.defrost i), g.heat.trans h.heat,
    g.granted.trans h.granted⟩

/-- Work that touches no table, permit or grant, and nothing the registry knows of. -/
theorem SameHeat.of_registry {s t : State} (g : SameRegistry s t) (table : t.table = s.table) (heat : t.heat = s.heat)
    (grants : t.feeder.grants = s.feeder.grants) : SameHeat s t :=
  ⟨g, fun i => by rw [table], heat, congrArg (List.map Grant.bay) grants⟩

theorem SameHeat.of_eq {s t : State} (table : t.table = s.table) (bays : t.bays = s.bays) (reader : t.reader = s.reader)
    (heat : t.heat = s.heat) (grants : t.feeder.grants = s.feeder.grants) : SameHeat s t :=
  .of_registry (.of_eq table bays reader) table heat grants

/-- Work that writes one record and keeps its defrost state. -/
theorem SameHeat.of_record {s t : State} {i : SlotIx} {r q : Record} (g : SameRegistry s t) (hr : s.table[i] = some r)
    (table : t.table = s.table.set i.val (some q)) (state : q.defrost.state = r.defrost.state) (heat : t.heat = s.heat)
    (grants : t.feeder.grants = s.feeder.grants) : SameHeat s t := by
  refine ⟨g, fun j => ?_, heat, congrArg (List.map Grant.bay) grants⟩
  rw [table, vector_set_get]; split
  next e => rw [e, hr, Option.map_some, Option.map_some, state]
  · rfl

theorem SameHeat.heatingAt {s t : State} (h : SameHeat s t) (b : Bay) : t.heatingAt b = s.heatingAt b := by
  refine heatingAt_congr ?_
  unfold State.recordAt
  rw [h.ref b]
  cases s.bays[b].ref with
  | none => rfl
  | some i => exact h.defrost i

theorem HeatWith.same {granted : List Bay} {s t : State} (h : HeatWith granted s) (g : SameHeat s t) :
    HeatWith granted t := by
  refine ⟨fun b => (h.bays b).congr (g.heatingAt b) (by rw [g.heat]) (g.state b), h.nodup, fun i r hr away => ?_⟩
  obtain ⟨q, hq, -, place⟩ := record_of_key (g.records i) hr
  have state := g.defrost i
  rw [show t.table[i] = some r from hr, hq] at state
  exact (Option.some.inj state).trans (h.unparked i q hq (place.trans away))

theorem HeatInv.same {s t : State} (h : HeatInv s) (g : SameHeat s t) : HeatInv t := by
  rw [heatInv_iff, g.granted]
  exact (heatInv_iff.1 h).same g

theorem sameHeat_putSlot {s : State} {i : SlotIx} {r q : Record} (hr : s.table[i] = some r) (key : q.key = r.key)
    (state : q.defrost.state = r.defrost.state) : SameHeat s (s.putSlot i (some q)) :=
  .of_record (quiet_putSlot hr key).toSameRegistry hr rfl state rfl rfl

theorem sameHeat_modParked {b : Bay} {f : Record → Record} (s : State) (key : ∀ r, (f r).key = r.key)
    (state : ∀ r, (f r).defrost.state = r.defrost.state) : SameHeat s (s.modParked b f) := by
  refine ⟨sameRegistry_modParked s key, fun i => ?_, State.modParked_heat b f s,
    congrArg (fun x => x.grants.map Grant.bay) (State.modParked_feeder b f s)⟩
  cases hi : s.bays[b].ref with
  | none => rw [State.modParked_of_no_ref hi]
  | some j =>
    rw [State.modParked_of_ref hi, State.modSlot_table, vector_set_get]; split
    next e => rw [e, Option.map_map]; exact congrArg (s.table[j].map ·) (funext state)
    · rfl

theorem sameHeat_modDoor (b : Bay) (f : DoorWatch → DoorWatch) (s : State) : SameHeat s (s.modDoor b f) :=
  .of_eq rfl rfl rfl rfl rfl

theorem sameHeat_raiseAt (k : BayKind) (b : Bay) (n : Option TrailerNo) (v : Option NoticeValue) (s : State) :
    SameHeat s (raiseAt k b n v s) := .of_eq rfl rfl rfl rfl rfl

/-- A change of one bay that is cold and keeps its reference. -/
theorem HeatInv.atBay {s t : State} {b : Bay} (h : HeatInv s) (cold : s.heatingAt b = false)
    (bays : ∀ c : Bay, c ≠ b → t.bays[c].core = s.bays[c].core) (ref : t.bays[b].ref = s.bays[b].ref)
    (table : t.table = s.table) (heat : t.heat = s.heat) (feeder : t.feeder = s.feeder) : HeatInv t := by
  have all := heatInv_iff.1 h
  obtain ⟨off, ungranted⟩ := all.cold cold
  have but : HeatBut s.granted b t :=
    (all.but b).away bays (fun _ _ i _ => by rw [table]) (fun c _ => by rw [heat])
      fun i r hr => all.unparked i r (table ▸ hr)
  have record := recordAt_congr ref fun i _ => by rw [table]
  rw [heatInv_iff, State.granted, feeder]
  exact but.cold ungranted ⟨(heatingAt_congr (by rw [record])).trans cold, by rw [heat]; exact off.permit⟩

end Sys2Proof.Machine

namespace Sys2Proof.Machine

/-! # What each operation does to the agreement of permits, grants and records (O58) -/

/-! ## The ends of heating and the return to WAITING (R117, R120, R139) -/

section
variable {s : State} {b : Bay} {granted : List Bay}

theorem not_mem_filter_ne (granted : List Bay) (b : Bay) : b ∉ granted.filter (· != b) := by simp

theorem granted_release (b : Bay) (s : State) :
    (s.modFeeder (Feeder.release b)).granted = s.granted.filter (· != b) := by
  rw [State.granted, State.granted, List.filter_map]
  rfl

/-- R139: with its grant released a cold bay agrees with the rest. -/
theorem HeatBut.released {t : State} (h : HeatBut s.granted b t) (cold : Cold b t)
    (granted : t.granted = s.granted.filter (· != b)) : HeatInv t := by
  rw [heatInv_iff, granted]
  exact h.drop.cold (not_mem_filter_ne _ _) cold

theorem Record.afterHeating_ne_heating (r : Record) (g : DefrostClass) : r.afterHeating.state ≠ .heating g := by
  simp only [Record.afterHeating]
  split <;> nofun

/-- R117: an end of heating leaves the bay cold and without a grant. -/
theorem heat_endHeating (refs : RefsParked s) (h : HeatInv s) (b : Bay) (r : Record) : HeatInv (endHeating b r s) := by
  have off := (((heatInv_iff.1 h).but b).modFeeder (Feeder.release b)).setHeat false
  have ended := off.modParked refs (f := Record.modDefrost fun _ => r.afterHeating) fun _ => .inl rfl
  have heat : HeatInv (((s.modFeeder (Feeder.release b)).setHeat b false).modParked b
      (Record.modDefrost fun _ => r.afterHeating)) := by
    refine ended.released ⟨heatingAt_modParked fun _ => r.afterHeating_ne_heating, by simp [-Fin.getElem_fin]⟩ ?_
    rw [State.granted, State.modParked_feeder]
    exact granted_release b s
  exact heat.same (sameHeat_raiseAt ..)

/-- R120: a record that is HEATING returns to WAITING with its granted class. -/
theorem heatingToWaiting_of_record {r : Record} {g : DefrostClass} (hr : s.recordAt b = some r)
    (heating : r.defrost.state = .heating g) : heatingToWaiting b s =
      (s.modParked b (Record.modDefrost fun d => { d with state := .waiting g })).setHeat b false := by
  simp only [heatingToWaiting, hr, heating]

/-- R120: a record returned to WAITING leaves its bay cold, and no other bay sees it. -/
theorem HeatBut.heatingToWaiting (h : HeatBut granted b s) (refs : RefsParked s)
    (permit : s.heat[b] = true ↔ s.heatingAt b = true) :
    HeatBut granted b (heatingToWaiting b s) ∧ Cold b (heatingToWaiting b s) := by
  cases heating : s.heatingAt b with
  | false =>
    rw [heatingToWaiting_of_not_heating heating]
    exact ⟨h, heating, Bool.eq_false_iff.2 fun on => Bool.false_ne_true (heating.symm.trans (permit.1 on))⟩
  | true =>
    obtain ⟨g, hg⟩ := heatingAt_iff.1 heating
    obtain ⟨r, hr, hd⟩ := Option.map_eq_some_iff.1 hg
    rw [heatingToWaiting_of_record hr hd]
    have back := h.modParked refs (f := Record.modDefrost fun d => { d with state := .waiting g }) fun _ => .inl rfl
    exact ⟨back.setHeat false, heatingAt_modParked fun _ _ => nofun, by simp [-Fin.getElem_fin]⟩

/-- R120: the bay of a record returned to WAITING is off the list of granted bays. -/
theorem HeatWith.heatingToWaiting (h : HeatWith granted s) (refs : RefsParked s) (b : Bay) :
    HeatWith (granted.filter (· != b)) (heatingToWaiting b s) := by
  obtain ⟨but, cold⟩ := (h.but b).heatingToWaiting refs (h.bays b).1
  exact but.drop.cold (not_mem_filter_ne _ _) cold

/-- R120, R139: a bay that has left SERVING gives up its permit and its grant. -/
theorem HeatBut.leavesServing (h : HeatBut s.granted b s) (refs : RefsParked s)
    (permit : s.heat[b] = true ↔ s.heatingAt b = true) : HeatInv (defrostLeavesServing b s) := by
  obtain ⟨but, cold⟩ := h.heatingToWaiting refs permit
  refine (but.modFeeder (Feeder.release b)).released ⟨cold.record, cold.permit⟩ ?_
  rw [granted_release, State.granted, heatingToWaiting_frame]
  rfl

end

/-! ## The round start at a record (R114 to R121) -/

/-- A record that is not HEATING goes on to another such state. -/
theorem heat_modDefrost {s : State} {b : Bay} (refs : RefsParked s) (h : HeatInv s) (cold : s.heatingAt b = false)
    {f : DefrostFigures → DefrostFigures} (hf : ∀ d g, (f d).state ≠ .heating g := by exact fun _ _ => nofun) :
    HeatInv (s.modParked b (Record.modDefrost f)) := by
  have all := heatInv_iff.1 h
  obtain ⟨off, ungranted⟩ := all.cold cold
  rw [heatInv_iff, State.granted, State.modParked_feeder]
  have moved := (all.but b).modParked refs (f := Record.modDefrost f) fun _ => .inl rfl
  refine moved.cold ungranted ⟨heatingAt_modParked fun r => hf r.defrost, ?_⟩
  rw [State.modParked_heat]
  exact off.permit

/-- A count of a record alone. -/
theorem sameHeat_modDefrost {f : DefrostFigures → DefrostFigures} (b : Bay) (s : State)
    (hf : ∀ d, (f d).state = d.state := by exact fun _ => rfl) : SameHeat s (s.modParked b (Record.modDefrost f)) :=
  sameHeat_modParked s (fun _ => rfl) fun r => hf r.defrost

theorem heat_defrostRound (b : Bay) {s : State} (refs : RefsParked s) (h : HeatInv s) : HeatInv (defrostRound b s) := by
  cases hr : s.recordAt b with
  | none => rw [defrostRound, hr]; exact h
  | some r =>
    simp only [defrostRound, hr]
    cases hd : r.defrost.state with
    | idle =>
      have cold : s.heatingAt b = false := heatingAt_of_record hr (by rw [hd]; nofun)
      simp only
      split
      · split
        · exact heat_modDefrost refs h cold
        · exact h.same (sameHeat_modDefrost b s)
      · exact h
    | waiting c =>
      have cold : s.heatingAt b = false := heatingAt_of_record hr (by rw [hd]; nofun)
      simp only
      split
      · split
        · exact (heat_modDefrost (f := fun d => { d with state := .waiting .urgent, intervalCount := r.intervalLoad })
            refs h cold).same (sameHeat_raiseAt ..)
        · exact h.same (sameHeat_modDefrost b s)
      · exact h
    | heating g =>
      simp only
      split
      · exact heat_endHeating (s := raiseAt .defrostLong b _ _ s) refs (h.same (sameHeat_raiseAt ..)) b _
      · exact h.same (sameHeat_modDefrost b s)
    | dripping =>
      have cold : s.heatingAt b = false := heatingAt_of_record hr (by rw [hd]; nofun)
      simp only
      split
      · exact heat_modDefrost refs h cold
      · exact h.same (sameHeat_modDefrost b s)

/-- A row that is part of a round start does the round start's work at the record, or nothing (log 8). -/
theorem intervalExpiryAt_eq (b : Bay) (s : State) :
    intervalExpiryAt b s = s ∨ intervalExpiryAt b s = defrostRound b s := by
  unfold intervalExpiryAt; split
  · exact .inl rfl
  next r hr =>
    split
    next idle =>
      split
      next due =>
        simp only [Bool.and_eq_true, decide_eq_true_eq] at due
        simp only [defrostRound, hr, idle, due.1, due.2, if_true, or_true]
      · exact .inl rfl
    all_goals exact .inl rfl

theorem expiryInWaitingAt_eq (b : Bay) (s : State) :
    expiryInWaitingAt b s = s ∨ expiryInWaitingAt b s = defrostRound b s := by
  unfold expiryInWaitingAt; split
  · exact .inl rfl
  next r hr =>
    split
    next waiting =>
      split
      next due =>
        simp only [Bool.and_eq_true, decide_eq_true_eq] at due
        simp only [defrostRound, hr, waiting, due.1, due.2, if_true, or_true]
      · exact .inl rfl
    all_goals exact .inl rfl

theorem endByMaximumAt_eq (b : Bay) (s : State) : endByMaximumAt b s = s ∨ endByMaximumAt b s = defrostRound b s := by
  unfold endByMaximumAt; split
  · exact .inl rfl
  next r hr =>
    split
    next heating =>
      split
      next due => simp only [defrostRound, hr, heating, due, if_true, or_true]
      · exact .inl rfl
    all_goals exact .inl rfl

theorem dripEndAt_eq (b : Bay) (s : State) : dripEndAt b s = s ∨ dripEndAt b s = defrostRound b s := by
  unfold dripEndAt; split
  · exact .inl rfl
  next r hr =>
    split
    next dripping =>
      split
      next due => simp only [defrostRound, hr, dripping, due, if_true, or_true]
      · exact .inl rfl
    all_goals exact .inl rfl

/-! ## Grants and sheds (R116, R132, R137, R141) -/

section
variable {s : State}

/-- R116, R137: a grant to a WAITING record at a SERVING bay. -/
theorem heat_grantAt {b : Bay} {c : DefrostClass} (refs : RefsParked s) (h : HeatInv s)
    (request : s.requestAt b = some c) (serving : s.bays[b].state = .serving) (load : Nat) : HeatInv (grantAt b c load s) := by
  obtain ⟨r, hr, waiting⟩ := requestAt_eq_some.1 request
  obtain ⟨i, hi, hri⟩ := State.recordAt_eq_some.1 hr
  have all := heatInv_iff.1 h
  obtain ⟨-, ungranted⟩ := all.cold (heatingAt_of_record hr (by rw [waiting]; nofun))
  have but := ((((all.but b).add ungranted).modFeeder (Feeder.grant b load s.timer.number)).modParked refs
    (f := Record.granted c) fun _ => .inl rfl).setHeat true
  have granted : (grantAt b c load s).granted = s.granted ++ [b] := by
    rw [State.granted, grantAt, State.setHeat_feeder, State.modParked_feeder]
    exact List.map_append
  have heating : (grantAt b c load s).heatingAt b = true := by
    rw [grantAt_eq hi hri]
    refine heatingAt_iff.2 ⟨c, ?_⟩
    rw [State.recordAt_of_ref (by exact hi)]
    exact congrArg (Option.map _) (vector_set_same s.table i _)
  rw [heatInv_iff, granted]
  refine but.with ⟨iff_of_true ?_ heating, iff_of_true (by simp) heating, fun _ => ?_⟩
  · exact vector_set_same _ b true
  · rw [State.setHeat_bays, State.modParked_bays]; exact serving

theorem quiet_grantAt (b : Bay) (c : DefrostClass) (load : Nat) (s : State) : Quiet s (grantAt b c load s) :=
  ((quiet_modFeeder rfl).trans (quiet_modDefrost b _ _)).trans (quiet_setHeat b true _)

/-- R137: the walk over the requests. -/
theorem heat_grantWalk (l : List Bay) {s : State} (refs : RefsParked s) (h : HeatInv s) : HeatInv (grantWalk l s) := by
  induction l generalizing s with
  | nil => exact h
  | cons b rest ih =>
    unfold grantWalk; split
    next r c hr request =>
      split
      · exact ih refs h
      next able =>
        split
        · have serving : s.bays[b].state = .serving := (eligible_iff.1 (by simpa using able)).1
          exact ih (refs.of_same (quiet_grantAt b c _ s).toSameRegistry) (heat_grantAt refs h request serving _)
        · exact h
    · exact ih refs h

/-- R120, R141: records returned to WAITING one after another. -/
theorem HeatWith.returned {granted : List Bay} (bays : List Bay) {s : State} (refs : RefsParked s)
    (h : HeatWith granted s) :
    HeatWith (granted.filter fun b => b ∉ bays) (forBays Machine.heatingToWaiting bays s) := by
  induction bays generalizing granted s with
  | nil => rw [List.filter_eq_self.2 (by simp)]; exact h
  | cons b rest ih =>
    have next := ih (refs.of_same (quiet_heatingToWaiting b s).toSameRegistry) (h.heatingToWaiting refs b)
    have both : (granted.filter (· != b)).filter (fun c => c ∉ rest) = granted.filter fun c => c ∉ b :: rest := by
      rw [List.filter_filter]
      exact List.filter_congr fun c _ => by rw [Bool.eq_iff_iff]; simp [and_comm]
    exact both ▸ next

theorem feeder_returned (bays : List Bay) (s : State) : (forBays heatingToWaiting bays s).feeder = s.feeder := by
  induction bays generalizing s with
  | nil => rfl
  | cons b rest ih => exact (ih (heatingToWaiting b s)).trans (by rw [heatingToWaiting_frame])

/-- R120: the newest grants leave the list, and the records of their bays return to WAITING. -/
theorem heat_shed (refs : RefsParked s) (h : HeatInv s) {older newer bays : List Bay} {f : Feeder → Feeder}
    (granted : s.granted = older ++ newer) (kept : (f s.feeder).grants.map (·.bay) = older)
    (shed : ∀ b, b ∈ bays ↔ b ∈ newer) : HeatInv (forBays heatingToWaiting bays (s.modFeeder f)) := by
  have all := heatInv_iff.1 h
  have apart := (List.nodup_append.1 (granted ▸ all.nodup)).2.2
  have stay : s.granted.filter (fun b => b ∉ bays) = older := by
    have old : older.filter (fun b => b ∉ bays) = older :=
      List.filter_eq_self.2 fun b hb => decide_eq_true fun new => apart b hb b ((shed b).1 new) rfl
    have new : newer.filter (fun b => b ∉ bays) = [] :=
      List.filter_eq_nil_iff.2 fun b hb => by simpa using (shed b).2 hb
    rw [granted, List.filter_append, old, new, List.append_nil]
  have dropped : HeatWith s.granted (s.modFeeder f) := ⟨all.bays, all.nodup, all.unparked⟩
  rw [heatInv_iff, State.granted, feeder_returned, State.modFeeder_feeder, kept, ← stay]
  exact dropped.returned bays refs

/-- R132: the newest grant is shed. -/
theorem heat_shedNewest (refs : RefsParked s) (h : HeatInv s) : HeatInv (shedNewest s) := by
  rcases List.eq_nil_or_concat' s.feeder.grants with nil | ⟨older, g, list⟩
  · rw [shedNewest_nil nil]
    exact h.same (.of_eq rfl rfl rfl rfl rfl)
  · have newest : s.feeder.grants.getLast? = some g := by rw [list, List.getLast?_concat]
    simp only [shedNewest, newest]
    refine heat_shed (bays := [g.bay]) (newer := [g.bay]) (older := older.map (·.bay)) refs h ?_ ?_ fun _ => Iff.rfl
    · rw [State.granted, list, List.map_append]; rfl
    · simp only [Feeder.sagged, newest]
      rw [list, List.dropLast_concat]

theorem restored_grants (f : Feeder) : f.restored.grants = f.grants := by
  unfold Feeder.restored; split
  · rfl
  · split <;> rfl

/-- R131 to R133: the check point. -/
theorem heat_checkPoint (refs : RefsParked s) (h : HeatInv s) : HeatInv (checkPoint s) := by
  cases verdict : s.feeder.judge s.outside.fsense with
  | sag =>
    rw [checkPoint_sag verdict]
    exact (heat_shedNewest refs h).same (.of_eq rfl rfl rfl rfl rfl)
  | clear =>
    rw [checkPoint_clear verdict]
    exact h.same (.of_eq rfl rfl rfl rfl (restored_grants s.feeder))

/-- R141: entries are shed from the newest on. -/
theorem Feeder.fit_prefix (limit : Nat) (grants : List Grant) : Feeder.fit limit grants <+: grants := by
  have older (l : List Grant) : Feeder.dropNewest limit l <:+ l := by
    induction l with
    | nil => exact List.suffix_rfl
    | cons g rest ih =>
      unfold Feeder.dropNewest; split
      · exact ih.trans (List.suffix_cons g rest)
      · exact List.suffix_rfl
  rw [Feeder.fit, ← List.reverse_suffix, List.reverse_reverse]
  exact older grants.reverse

/-- R141: storing a capacity sheds the newest grants that do not fit. -/
theorem heat_setFeederUnits (c : Nat) (refs : RefsParked s) (h : HeatInv s) : HeatInv (setFeederUnits c s) := by
  generalize hl : c - min s.feeder.shed c = limit
  have split := List.prefix_iff_eq_append.1 (Feeder.fit_prefix limit s.feeder.grants)
  have granted := (congrArg (List.map Grant.bay) split).symm.trans List.map_append
  unfold setFeederUnits
  rw [hl]
  refine heat_shed refs h granted (congrArg (fun n => (Feeder.fit n s.feeder.grants).map _) hl) fun b => ?_
  rw [Feeder.shedBays, List.map_reverse, List.mem_reverse]

end

end Sys2Proof.Machine

namespace Sys2Proof.Machine

/-! # The bays' operations keep the agreement of permits, grants and records (O58) -/

section
variable {s : State} {b : Bay}

theorem HeatInv.cold_of_not_serving (h : HeatInv s) (hb : s.bays[b].state ≠ .serving) : s.heatingAt b = false :=
  (heatInv_iff.1 h).cold_of_not_serving hb

/-! ## Entries to SERVING, holding and identifying (R13, R41, R51, R56) -/

theorem heat_enterServing (h : HeatInv s) (cold : s.heatingAt b = false) : HeatInv (enterServing b s) :=
  h.atBay cold (fun _ => (enterServing_bay b s).other) (enterServing_bay b s).ref_at (enterServing_table b s)
    (by rw [enterServing_frame]) (enterServing_feeder b s)

theorem heat_hold (h : HeatInv s) (cold : s.heatingAt b = false) (x : Held) : HeatInv (hold b x s) :=
  h.atBay cold (fun _ => (hold_bay b x s).other) (hold_bay b x s).ref_at (by rw [hold_frame]) (by rw [hold_frame])
    (by rw [hold_frame])

/-- A bay that is not SERVING becomes another such bay. -/
theorem heat_become (h : HeatInv s) (cold : s.heatingAt b = false) (st : BayState) :
    HeatInv (s.modBay b (BayCtl.become st)) :=
  h.atBay cold (AwayFrom.modBay _).bays (by rw [State.modBay_bays, vector_set_same]; rfl) rfl rfl rfl

theorem heat_enable (h : HeatInv s) : HeatInv (enable b s) := by
  by_cases hb : s.bays[b].state = .disabled
  · have cold : s.heatingAt b = false := h.cold_of_not_serving (by rw [hb]; nofun)
    cases hr : s.bays[b].ref with
    | some i => rw [enable_parked hb hr]; exact heat_enterServing h cold
    | none =>
      cases hc : s.bays[b].connected with
      | true => rw [enable_connected hb hr hc]; exact heat_become h cold .identifying
      | false => rw [enable_unconnected hb hr hc]; exact heat_become h cold .empty
  · rw [enable_of_not_disabled hb]; exact h

theorem heat_clearFault (h : HeatInv s) (hb : s.bays[b].state = .fault) : HeatInv (clearFault b s) :=
  heat_enterServing (s := ceaseAt .overcurrent b s) (h.same (.of_eq rfl rfl rfl rfl rfl))
    (h.cold_of_not_serving (by rw [hb]; nofun))

/-! ## Parking and departing (R8, R10) -/

/-- R8: a record parks IDLE, at a bay that had none. -/
theorem heat_park (refs : RefsParked s) (h : HeatInv s) {i : SlotIx} {r : Record} (hr : Parkable s i r)
    (vacant : s.bays[b].ref = none) : HeatInv (park i r b s) := by
  have all := heatInv_iff.1 h
  obtain ⟨off, ungranted⟩ := all.cold (heatingAt_of_none (State.recordAt_of_no_ref vacant))
  have but : HeatBut s.granted b (park i r b s) := by
    refine (all.but b).away (fun _ => (park_bay i r b s).other) (fun c _ j hj => ?_) (fun _ _ => by rw [park_frame])
      fun j q hq away => ?_
    · rw [park_table]
      exact vector_set_other _ _ fun e => hr.not_referred refs c (e ▸ hj)
    · rw [park_table, vector_set_get] at hq
      split at hq
      · cases hq; cases away
      · exact all.unparked j q hq away
  have record : (park i r b s).recordAt b = some (r.park b s.timer.number s.doors[b].figures) := by
    rw [State.recordAt_of_ref (park_bay i r b s).ref_at, park_table, vector_set_same]
  rw [heatInv_iff, show (park i r b s).granted = s.granted by rw [State.granted, park_frame]; rfl]
  exact but.cold ungranted ⟨heatingAt_of_record record nofun, by rw [park_frame]; exact off.permit⟩

/-- R10: a record departs IDLE, with its permit and its grant. -/
theorem heat_depart (refs : RefsParked s) (h : HeatInv s) : HeatInv (depart b s) := by
  cases hr : s.recordAt b with
  | none => rw [depart, hr]; exact h
  | some r =>
    have left := (((heatInv_iff.1 h).but b).modParked refs (f := Record.depart b s.timer.number) fun _ => .inr rfl)
    have gone := ((left.modFeeder (Feeder.release b)).setHeat false).modBay fun x => { x with ref := none }
    simp only [depart, hr]
    refine HeatInv.same (gone.released ⟨heatingAt_of_none (State.recordAt_of_no_ref ?_), ?_⟩ ?_) (sameHeat_raiseAt ..)
    · simp [-Fin.getElem_fin]
    · simp [-Fin.getElem_fin]
    · rw [← granted_release b s, State.granted, State.granted]; simp

/-- R52: a disconnected bay refers to no record. -/
theorem heat_disconnect (hs : RegistryInv s) (h : HeatInv s) : HeatInv (disconnect b s) := by
  unfold disconnect; split
  · have left : HeatInv (ceaseAll b (depart b s)) := (heat_depart hs.2.1 h).same
      (.of_registry (sameRegistry_ceaseAll b _) (by rw [ceaseAll_frame]) (by rw [ceaseAll_frame])
        (by rw [ceaseAll_frame]))
    have noRef : (ceaseAll b (depart b s)).bays[b].ref = none :=
      ((sameRegistry_ceaseAll b _).ref b).trans (hs.but b).depart_ref
    generalize ceaseAll b (depart b s) = u at left noRef
    refine left.atBay (heatingAt_of_none (State.recordAt_of_no_ref noRef)) (fun c hc => ?_) ?_ rfl rfl rfl
    · exact congrArg BayCtl.core (vector_set_other _ _ hc)
    · rw [State.modDoor_bays, State.modBay_bays, vector_set_same]; rfl
  · exact h

/-- R38: a bay that is connected is EMPTY or DISABLED, or else was connected before. -/
theorem heat_connect (hs : RegistryInv s) (h : HeatInv s) : HeatInv (connect b s) := by
  by_cases hc : s.bays[b].connected = true
  · rw [connect, if_pos hc]; exact h
  · have cold : s.heatingAt b = false := h.cold_of_not_serving fun hb => by
      have coherent := hs.coherent b
      rw [BayCtl.coherent, hb] at coherent
      exact hc coherent.2
    have seen : HeatInv ((s.modBay b fun x => { x with connected := true, differing := 0 }).modDoor b
        fun _ => .unwatched) :=
      h.atBay cold (fun c hc => congrArg BayCtl.core (vector_set_other _ _ hc))
        (by rw [State.modDoor_bays, State.modBay_bays, vector_set_same]) rfl rfl rfl
    rw [connect, if_neg hc]
    simp only
    cases hb : s.bays[b].state with
    | empty =>
      refine heat_become seen (seen.cold_of_not_serving ?_) .identifying
      rw [State.modDoor_bays, State.modBay_bays, vector_set_same, hb]; nofun
    | _ => exact seen

/-! ## Leaving SERVING (R45, R49) -/

/-- A bay that has left SERVING with its record HEATING gives up what it held of the defrost. -/
theorem heat_leavesServing {t : State} {x : BayCtl} (refs : RefsParked s) (h : HeatInv s)
    (bays : t.bays = s.bays.set b.val x) (ref : x.ref = s.bays[b].ref) (table : t.table = s.table)
    (heat : t.heat = s.heat) (feeder : t.feeder = s.feeder) : HeatInv (defrostLeavesServing b t) := by
  have bay : BayBecomes b x s t := bayBecomes_set bays rfl
  have all := heatInv_iff.1 h
  have granted : t.granted = s.granted := by rw [State.granted, feeder]; rfl
  have but : HeatBut t.granted b t := granted ▸ (all.but b).away (fun _ => bay.other) (fun _ _ i _ => by rw [table])
    (fun c _ => by rw [heat]) fun i r hr => all.unparked i r (table ▸ hr)
  have record := recordAt_congr (bay.ref_kept ref b) fun i _ => by rw [table]
  have heating : t.heatingAt b = s.heatingAt b := heatingAt_congr (by rw [record])
  refine but.leavesServing (refs.of_records (fun i => by rw [table]) (bay.ref_kept ref)) ?_
  rw [heat, heating]
  exact (all.bays b).1

theorem heat_trip (refs : RefsParked s) (h : HeatInv s) : HeatInv (trip b s) :=
  heat_leavesServing (x := BayCtl.become .fault s.bays[b]) refs h rfl rfl rfl rfl rfl

theorem heat_disable (refs : RefsParked s) (h : HeatInv s) : HeatInv (disable b s) := by
  have ceased (k : BayKind) : SameHeat s (ceaseAt k b s) := .of_eq rfl rfl rfl rfl rfl
  have cold (hb : s.bays[b].state ≠ .serving) : s.heatingAt b = false := h.cold_of_not_serving hb
  cases hb : s.bays[b].state with
  | disabled => rw [disable_disabled hb]; exact h
  | empty => rw [disable_empty hb]; exact heat_become h (cold (by rw [hb]; nofun)) _
  | identifying => rw [disable_identifying hb]; exact heat_become h (cold (by rw [hb]; nofun)) _
  | held x =>
    rw [disable_held hb]
    exact heat_become (h.same (ceased _)) (cold (by rw [hb]; nofun)) _
  | fault =>
    rw [disable_fault hb]
    exact heat_become (h.same (ceased _)) (cold (by rw [hb]; nofun)) _
  | serving =>
    rw [disable_serving hb]
    exact heat_leavesServing (x := BayCtl.become .disabled s.bays[b]) refs h rfl rfl rfl rfl rfl

end

end Sys2Proof.Machine

namespace Sys2Proof.Machine

/-! # Readings, doors and requests keep the agreement of permits, grants and records (O58) -/

/-! ## What a reading writes (R95, R104, R110, R111) -/

section
variable {s : State} {b : Bay} {i : SlotIx} {r : Record}

@[simp] theorem report_table (before after : Bool) (k : BayKind) (n : Option TrailerNo) (v : NoticeValue) (s : State) :
    (report before after k b n v s).table = s.table := by cases before <;> cases after <;> rfl

/-- R95: a FUEL result writes fuel figures alone. -/
theorem fuelResult_table (hi : s.bays[b].ref = some i) (hr : s.table[i] = some r) (res : Nat) :
    ∃ f, (fuelResult b res s).table = s.table.set i.val (some { r with fuel := f }) := by
  by_cases still : settled s.doors[b] = true
  · cases value : s.readCurve .fuel r.settings.fuelCurve res with
    | none =>
      rw [fuelResult_noValue hi hr still value]
      exact ⟨_, by simp only [sampleSettled, State.modCond_table, ceaseIf_table]; rfl⟩
    | some l =>
      rw [fuelResult_value hi hr still value, filteredUpdate_sampleSettled hi]
      exact ⟨_, by simp only [report_table, ceaseIf_table]; rfl⟩
  · rw [fuelResult_unsettled hi hr still]; exact ⟨_, rfl⟩

/-- R104: so does a FUEL error. -/
theorem fuelError_table (hi : s.bays[b].ref = some i) (hr : s.table[i] = some r) (e : ErrorKind) :
    ∃ f, (fuelError b e s).table = s.table.set i.val (some { r with fuel := f }) := by
  rw [fuelError_eq hi hr]
  simp only
  split
  · exact ⟨_, report_table ..⟩
  · exact ⟨_, rfl⟩

/-- R111: a PROBE error writes probe figures alone. -/
theorem probeError_table (hi : s.bays[b].ref = some i) (hr : s.table[i] = some r) (e : ErrorKind) :
    ∃ p, (probeError b e s).table = s.table.set i.val (some { r with probe := p }) := by
  rw [probeError_eq hi hr]
  simp only
  split
  · exact ⟨_, report_table ..⟩
  · exact ⟨_, rfl⟩

theorem sameHeat_coilWritten (hr : s.table[i] = some r) (p : ProbeFigures) :
    SameHeat s (coilWritten b i { r with probe := p } s) := by
  have written := sameHeat_putSlot (s := s) (q := { r with probe := p }) hr rfl rfl
  have cleared : SameRegistry (s.putSlot i (some { r with probe := p })) (coilWritten b i { r with probe := p } s) :=
    (sameRegistry_ceaseIf _ _ b _).trans (sameRegistry_modCond b _ _)
  refine written.trans (.of_registry cleared ?_ ?_ ?_)
  · simp only [coilWritten, State.modCond_table, ceaseIf_table]
  · simp only [coilWritten, State.modCond_heat, ceaseIf_heat]
  · simp only [coilWritten, State.modCond_feeder, ceaseIf_feeder]

theorem heat_probeResult (refs : RefsParked s) (h : HeatInv s) (n : Nat) : HeatInv (probeResult b n s) := by
  cases hr : s.recordAt b with
  | none => rw [probeResult, hr]; exact h
  | some r =>
    obtain ⟨i, hi, hri⟩ := State.recordAt_eq_some.1 hr
    have written := sameHeat_coilWritten (s := s) (b := b) hri
      { r.probe with lastResistance := some n, errorRun := 0, coil := s.readCurve .probe r.settings.probeCurve n }
    rw [probeResult_eq hi hri]
    simp only
    split
    · split
      · exact heat_endHeating (refs.of_same written.toSameRegistry) (h.same written) b r
      · exact h.same written
    · exact h.same written

/-- R73: a reading handed on. -/
theorem heat_deliverReading (refs : RefsParked s) (h : HeatInv s) (ch : Channel) (x : Reading) :
    HeatInv (deliverReading ch x s) := by
  obtain ⟨b, kind⟩ := ch
  cases hr : s.recordAt b with
  | none =>
    have nothing : deliverReading { bay := b, kind := kind } x s = s := by
      unfold deliverReading
      split <;> simp only [fuelResult, fuelError, probeResult, probeError, hr]
    rw [nothing]; exact h
  | some r =>
    obtain ⟨i, hi, hri⟩ := State.recordAt_eq_some.1 hr
    cases kind with
    | fuel =>
      cases x with
      | resistance n =>
        obtain ⟨f, table⟩ := fuelResult_table hi hri n
        exact h.same (t := fuelResult b n s) (.of_record (sameRegistry_fuelResult b n s) hri table rfl
          (by rw [fuelResult_frame]) (by rw [fuelResult_frame]))
      | error e =>
        obtain ⟨f, table⟩ := fuelError_table hi hri e
        exact h.same (t := fuelError b e s) (.of_record (sameRegistry_fuelError b e s) hri table rfl
          (by rw [fuelError_frame]) (by rw [fuelError_frame]))
    | probe =>
      cases x with
      | resistance n => exact heat_probeResult refs h n
      | error e =>
        obtain ⟨p, table⟩ := probeError_table hi hri e
        exact h.same (t := probeError b e s) (.of_record (sameRegistry_probeError b e s) hri table rfl
          (by rw [probeError_frame]) (by rw [probeError_frame]))

end

/-! ## Doors (R147 to R149, R152) -/

section
variable (b : Bay) (s : State)

theorem sameHeat_modFigures (f : DoorFigures → DoorFigures) : SameHeat s (modFigures b f s) :=
  (sameHeat_modDoor b _ s).trans (sameHeat_modParked _ (fun _ => rfl) fun _ => rfl)

theorem sameHeat_guardEvent (asked : Bool) : SameHeat s (guardEvent asked b s) := by
  cases asked
  · exact .refl s
  · exact sameHeat_raiseAt ..

theorem sameHeat_endDoorLong : SameHeat s (endDoorLong b s) :=
  .of_registry (sameRegistry_endDoorLong b s) (by simp [endDoorLong]) (by simp [endDoorLong]) (by simp [endDoorLong])

theorem sameHeat_acceptOpen : SameHeat s (acceptOpen b s) := by
  unfold acceptOpen; split
  · exact ((sameHeat_modDoor b _ s).trans (sameHeat_modFigures b _ _)).trans (sameHeat_guardEvent b _ _)
  · exact sameHeat_modFigures b s _
  · exact .refl s

theorem sameHeat_acceptShut : SameHeat s (acceptShut b s) := by
  have shut (f : DoorFigures → DoorFigures) (g : DoorWatch → DoorWatch) : SameHeat s (modFigures b f (s.modDoor b g)) :=
    (sameHeat_modDoor b g s).trans (sameHeat_modFigures b _ f)
  unfold acceptShut
  simp only
  split
  · exact ((shut _ _).trans (sameHeat_endDoorLong b _)).trans (sameHeat_guardEvent b _ _)
  · exact shut _ _
  · exact .refl s

theorem sameHeat_acceptDoor (closed : Bool) : SameHeat s (acceptDoor b closed s) := by
  have fresh := sameHeat_modDoor b (fun d => { d with doorLine := .none }) s
  cases closed
  · exact fresh.trans (sameHeat_acceptOpen b _)
  · exact fresh.trans (sameHeat_acceptShut b _)

theorem sameHeat_doorRound : SameHeat s (doorRound b s) := by
  have counted : SameHeat s (doorCounts b s) := by
    unfold doorCounts; split
    · exact sameHeat_modFigures b s _
    · exact sameHeat_modDoor b _ s
    · exact .refl s
  have judged (t : State) : SameHeat t (judgeDoorLong b t) :=
    .of_registry (sameRegistry_judgeDoorLong b t) (by rw [judgeDoorLong_frame]) (by rw [judgeDoorLong_frame])
      (by rw [judgeDoorLong_frame])
  unfold doorRound; split
  · exact counted.trans (judged _)
  · exact .refl s

theorem sameHeat_endFuelJudgements : SameHeat s (endFuelJudgements b s) :=
  .of_registry (sameRegistry_endFuelJudgements b s) (by rw [endFuelJudgements_frame]) (by rw [endFuelJudgements_frame])
    (by rw [endFuelJudgements_frame])

end

/-! ## Requests (R172) -/

/-- The registry is consistent, and permits, grants and HEATING records agree. -/
def HeatRegistry (s : State) : Prop := RegistryInv s ∧ HeatInv s

theorem HeatRegistry.refs {s : State} (h : HeatRegistry s) : RefsParked s := h.1.2.1

theorem HeatRegistry.same {s t : State} (h : HeatRegistry s) (g : SameHeat s t) : HeatRegistry t :=
  ⟨h.1.of_same g.toSameRegistry, h.2.same g⟩

/-- R12: the outcomes of a match at a bay without a record. -/
theorem Settles.heatRegistry {b : Bay} {s : State} (h : Settles RegistryInv b s) (refs : RefsParked s)
    (heat : HeatInv s) (vacant : s.bays[b].ref = none) : Settles HeatRegistry b s :=
  ⟨fun i r hr => ⟨h.park i r hr, heat_park refs heat hr vacant⟩,
    fun x hx => ⟨h.hold x hx, heat_hold heat (heatingAt_of_none (State.recordAt_of_no_ref vacant)) x⟩⟩

theorem settles_of_held {s : State} {b : Bay} {x : Held} (hs : HeatRegistry s) (hb : s.bays[b].state = .held x) :
    Settles HeatRegistry b s :=
  have vacant := hs.1.vacant_of_held hb
  vacant.settles.heatRegistry hs.refs hs.2 vacant.ref

section
variable {s : State}

/-- A record written in a slot to which no bay refers, or no record. -/
theorem heat_putSlot {i : SlotIx} {r : Option Record} (h : HeatInv s) (free : ∀ b : Bay, s.bays[b].ref ≠ some i)
    (idle : ∀ q ∈ r, q.defrost.state = .idle) : HeatInv (s.putSlot i r) := by
  have all := heatInv_iff.1 h
  refine heatInv_iff.2 ⟨fun b => (all.bays b).congr (heatingAt_congr ?_) rfl rfl, all.nodup, fun j q hq away => ?_⟩
  · exact congrArg _ (recordAt_congr rfl fun j hj => vector_set_other _ _ fun e => free b (e ▸ hj))
  · rw [State.putSlot_table, vector_set_get] at hq
    split at hq
    · exact idle q hq
    · exact all.unparked j q hq away

theorem heat_book (n : TrailerNo) (a : SettingsArg) (hs : HeatRegistry s) : HeatInv (book n a s).1 := by
  unfold book; split
  · exact hs.2
  · split
    · exact hs.2
    · split
      · exact hs.2
      next i hi =>
        refine heat_putSlot hs.2 (fun b hb => ?_) fun q hq => ?_
        · obtain ⟨r, hr, -⟩ := (hs.refs b i).1 hb
          rw [freeSlot_some hi] at hr; cases hr
        · cases hq; rfl

theorem Record.amend_defrost_state (x : Settings) (r : Record) : (r.amend x).defrost.state = r.defrost.state := by
  rw [Record.amend_eq]
  dsimp only
  split <;> rfl

theorem heat_amend (n : TrailerNo) (a : SettingsArg) (h : HeatInv s) : HeatInv (amend n a s).1 := by
  unfold amend; split
  · exact h
  · refine onNamed_keeps h fun i r _ hr => ?_
    have stored := h.same (sameHeat_putSlot hr (Record.amend_key (applySettings a r.settings) r)
      (Record.amend_defrost_state _ r))
    dsimp only
    split
    · split
      · exact stored
      · exact stored.same (sameHeat_endFuelJudgements _ _)
    · exact stored

theorem heat_retire (n : TrailerNo) (hs : HeatRegistry s) : HeatInv (retire n s).1 := by
  refine onNamed_keeps hs.2 fun i r _ hr => ?_
  have freed (away : r.place.bay? = none) : HeatInv (s.putSlot i none) :=
    heat_putSlot hs.2 (fun b hb => by rw [hs.refs.parked hb hr] at away; cases away)
      fun q hq => absurd hq (Option.not_mem_none q)
  cases hp : r.place with
  | parked c since => exact hs.2
  | booked => exact freed (by rw [hp]; rfl)
  | departed c since left => exact freed (by rw [hp]; rfl)

theorem heat_assign (c : Byte) (n : TrailerNo) (hs : HeatRegistry s) : HeatInv (assign c n s).1 := by
  refine onBay_keeps hs.2 fun b => ?_
  split
  · exact hs.2
  next hn =>
    unfold assignAt; split
    next assignable =>
      obtain ⟨x, hx⟩ : ∃ x, s.bays[b].state = .held x :=
        (BayState.assignable_iff.1 assignable).elim (fun fail => ⟨_, fail⟩) fun ⟨m, conflict⟩ => ⟨_, conflict⟩
      have settles := settles_of_held hs hx
      split
      next i r hi =>
        split
        · exact hs.2
        next away => exact (settles.park i r (parkable_named hi (by simpa using away))).2
      next unknown =>
        split
        next i hi => exact (settles.park i _ (parkable_create hn (named_eq_none.1 unknown) hi)).2
        · exact hs.2
    · exact hs.2

theorem heat_rebase (n : TrailerNo) (h : HeatInv s) : HeatInv (rebase n s).1 := by
  refine onNamed_keeps h fun i r _ hr => ?_
  dsimp only
  split
  next f v _ _ =>
    have based := sameHeat_putSlot (q := { r with fuel := { r.fuel with baseline := some f } }) hr rfl rfl
    split
    · exact (h.same based).same (.of_eq (by simp) (by simp) (by simp) (by simp) (by simp))
    · exact h.same based
  · exact h

/-- A PARKED record that is not HEATING is given other such defrost figures. -/
theorem heat_putDefrost (refs : RefsParked s) (h : HeatInv s) {i : SlotIx} {r : Record} {b : Bay}
    (hr : s.table[i] = some r) (parked : r.place.bay? = some b) (cold : ∀ g, r.defrost.state ≠ .heating g)
    {f : DefrostFigures → DefrostFigures} (hf : ∀ d g, (f d).state ≠ .heating g := by exact fun _ _ => nofun) :
    HeatInv (s.putSlot i (some (r.modDefrost f))) := by
  have hi := refs.ref hr parked
  rw [← State.modParked_eq_putSlot hi hr]
  exact heat_modDefrost refs h (heatingAt_of_record (State.recordAt_eq_some.2 ⟨i, hi, hr⟩) cold) hf

theorem heat_defrostStop (n : TrailerNo) (hs : HeatRegistry s) : HeatInv (defrostStop n s).1 := by
  refine onNamed_keeps hs.2 fun i r _ hr => ?_
  split
  · exact hs.2
  next waiting =>
    obtain ⟨b, parked⟩ : ∃ b, r.place.bay? = some b := Option.ne_none_iff_exists'.1 fun away => by
      have idle := (heatInv_iff.1 hs.2).unparked i r hr away
      rw [waiting] at idle; cases idle
    exact heat_putDefrost hs.refs hs.2 hr parked (by rw [waiting]; nofun)
  · split
    · exact heat_endHeating hs.refs hs.2 _ r
    · exact hs.2
  · exact hs.2

theorem heat_defrostNow (n : TrailerNo) (hs : HeatRegistry s) : HeatInv (defrostNow n s).1 := by
  refine onNamed_keeps hs.2 fun i r _ hr => ?_
  split
  next here =>
    obtain ⟨b, parked⟩ := Option.isSome_iff_exists.1 here
    split
    next idle => exact heat_putDefrost hs.refs hs.2 hr parked (by rw [idle]; nofun)
    next waiting => exact heat_putDefrost hs.refs hs.2 hr parked (by rw [waiting]; nofun)
    all_goals exact hs.2
  · exact hs.2

theorem heat_commandClearFault (c : Byte) (h : HeatInv s) : HeatInv (commandClearFault c s).1 := by
  refine onBay_keeps h fun b => ?_
  split
  next hb =>
    split
    · exact heat_clearFault h hb
    · exact h
  · exact h

theorem heat_spot (c k : Byte) (h : HeatInv s) : HeatInv (spot c k s).1 := by
  refine onBay_keeps h fun b => ?_
  split
  · exact h
  · dsimp only
    split
    · exact h
    · split
      · exact h
      · split <;> exact h

theorem Record.curveChanged_keeps (c : Fin 8) (r : Record) :
    (r.curveChanged c).key = r.key ∧ (r.curveChanged c).defrost = r.defrost := by
  simp only [Record.curveChanged]
  split <;> split <;> exact ⟨rfl, rfl⟩

/-- R89: the records bound to a changed curve keep their places and their defrosts. -/
theorem heat_storeCurve (c : Fin 8) (v : Option Curve) (h : HeatInv s) : HeatInv (storeCurve c v s) := by
  have changed (i : SlotIx) :
      (s.table.map (Option.map (Record.curveChanged c)))[i] = s.table[i].map (Record.curveChanged c) :=
    Vector.getElem_map ..
  refine Keeps.forBays (P := HeatInv) (fun b t ht => ht.same (sameHeat_endFuelJudgements b t)) _ _ ?_
  refine h.same ⟨⟨fun i => ?_, fun _ => rfl, rfl, Iff.rfl⟩, fun i => ?_, rfl, rfl⟩
  · show (s.table.map (Option.map (Record.curveChanged c)))[i].map Record.key = _
    rw [changed, Option.map_map]
    exact congrArg (s.table[i].map ·) (funext fun r => (r.curveChanged_keeps c).1)
  · show (s.table.map (Option.map (Record.curveChanged c)))[i].map (·.defrost.state) = _
    rw [changed, Option.map_map]
    exact congrArg (s.table[i].map ·) (funext fun r => congrArg (·.state) (r.curveChanged_keeps c).2)

theorem heat_curveWrite (c k n : Byte) (pts : List (Word × Half)) (h : HeatInv s) :
    HeatInv (curveWrite c k n pts s).1 := by
  unfold curveWrite; split
  · exact h
  · split
    · dsimp only
      split
      · exact heat_storeCurve _ _ h
      · exact h
    · exact h

theorem heat_curveClear (c : Byte) (h : HeatInv s) : HeatInv (curveClear c s).1 := by
  unfold curveClear; split
  · exact h
  · split
    · exact h
    · exact heat_storeCurve _ _ h

theorem heat_storeSetting {x : Setting} {v : Nat} {t : State} (stored : storeSetting x v s = some t)
    (refs : RefsParked s) (h : HeatInv s) : HeatInv t := by
  cases x <;> simp only [storeSetting, Option.some.injEq, Option.map_eq_some_iff, reduceCtorEq] at stored
  case feederUnits => subst stored; exact heat_setFeederUnits _ refs h
  case guard => obtain ⟨g, -, rfl⟩ := stored; exact h
  all_goals subst stored; exact h

theorem heat_set (c : Byte) (v : Word) (hs : HeatRegistry s) : HeatInv (set c v s).1 := by
  unfold set; split
  · unfold setNamed; split
    next stored => exact heat_storeSetting stored hs.refs hs.2
    · exact hs.2
  · exact hs.2

/-- R172: a request is carried out by its own rule. -/
theorem heat_runRequest (r : Request) (hs : HeatRegistry s) : HeatInv (runRequest r s).1 := by
  have h := hs.2
  cases r with
  | book n a => exact heat_book n a hs
  | amend n a => exact heat_amend n a h
  | retire n => exact heat_retire n hs
  | lookup sel op =>
    simp only [runRequest, lookup]
    split
    · exact onNamed_keeps h fun _ _ _ _ => h
    all_goals exact h
  | list st => simp only [runRequest, list]; split <;> exact h
  | assign b n => exact heat_assign b n hs
  | rebase n => exact heat_rebase n h
  | defrostNow n => exact heat_defrostNow n hs
  | defrostStop n => exact heat_defrostStop n hs
  | bayStatus b => exact onBay_keeps h fun _ => h
  | bayEnable b => exact onBay_keeps h fun _ => heat_enable h
  | bayDisable b => exact onBay_keeps h fun _ => heat_disable hs.refs h
  | clearFault b => exact heat_commandClearFault b h
  | spot b k => exact heat_spot b k h
  | curveWrite c k n pts => exact heat_curveWrite c k n pts h
  | curveRead c => simp only [runRequest, curveRead]; split <;> exact h
  | curveClear c => exact heat_curveClear c h
  | set x v => exact heat_set x v hs
  | get x => simp only [runRequest, get]; split <;> exact h
  | routeSet k m c => simp only [runRequest, routeSet]; split <;> exact h
  | routeRead k => simp only [runRequest, routeRead]; split <;> exact h
  | take => exact h
  | ack k p => simp only [runRequest, ack]; split <;> exact h
  | reset => exact h

end

end Sys2Proof.Machine

namespace Sys2Proof.Machine

/-! # Every step keeps the agreement of permits, grants and records (O58) -/

/-- Quiet work that touches no table, permit or grant. -/
theorem HeatRegistry.quiet {s t : State} (h : HeatRegistry s) (g : Quiet s t) (table : t.table = s.table)
    (heat : t.heat = s.heat) (grants : t.feeder.grants = s.feeder.grants) : HeatRegistry t :=
  h.same (.of_registry g.toSameRegistry table heat grants)

/-! ## The round -/

theorem heatRegistry_defrostRound (b : Bay) : Keeps HeatRegistry (defrostRound b) := fun s hs =>
  ⟨hs.1.of_same (quiet_defrostRound b s).toSameRegistry, heat_defrostRound b hs.refs hs.2⟩

/-- A row that is a part of the round start's work at a record (log 8). -/
theorem heatRegistry_roundPart {work : Bay → State → State} (part : ∀ b s, work b s = s ∨ work b s = defrostRound b s)
    (b : Bay) : Keeps HeatRegistry (work b) := by
  intro s hs
  rcases part b s with nothing | done
  · rw [nothing]; exact hs
  · rw [done]; exact heatRegistry_defrostRound b s hs

theorem heatRegistry_retry (b : Bay) : Keeps HeatRegistry (retry b) := by
  intro s hs
  unfold retry; split
  next n hb =>
    have tag : n ≠ 0 := fun e => registry_keptByWork.heldTag s b _ hs.1 hb (by rw [e]; rfl)
    exact (settles_of_held hs hb).matchNumber tag
  all_goals exact hs

theorem heatRegistry_bayRound (b : Bay) : Keeps HeatRegistry (bayRound b) := by
  intro s hs
  have channels : HeatRegistry (channelRound b s) :=
    hs.quiet (quiet_channelRound b s) (by rw [channelRound_frame]) (by rw [channelRound_frame])
      (by rw [channelRound_frame])
  exact (heatRegistry_retry b _ (heatRegistry_defrostRound b _ channels)).same (sameHeat_doorRound b _)

theorem heatRegistry_pointWork (p : Point) : Keeps HeatRegistry (pointWork p) := by
  intro s hs
  refine ⟨registry_keptByWork.pointWork p s hs.1, ?_⟩
  cases p with
  | check => exact heat_checkPoint hs.refs hs.2
  | grant => exact heat_grantWalk _ hs.refs hs.2
  | sweep => exact hs.2

/-! ## The tag reader -/

theorem heatRegistry_deliverOutcome {o : Option TrailerNo} (good : o ≠ some 0) :
    Keeps HeatRegistry (deliverOutcome o) := by
  intro s hs
  unfold deliverOutcome
  cases hq : s.reader.queue with
  | nil => exact hs
  | cons b rest =>
    have vacant := hs.1.vacant_of_head hq s.timer.timeUs
    have settles := vacant.settles.heatRegistry vacant.refs hs.2 vacant.ref
    cases o with
    | none => exact settles.hold .tagFail nofun
    | some n => exact settles.matchNumber fun zero => good (by rw [zero])

theorem heatRegistry_attemptFails (n start : Nat) {s : State} (busy : s.reader.state ≠ .idle) (hs : HeatRegistry s) :
    HeatRegistry (attemptFails n start s) := by
  unfold attemptFails; split
  · exact heatRegistry_deliverOutcome (o := none) (by simp) s hs
  · exact hs.quiet (quiet_enterSpacing busy) rfl rfl rfl

theorem heatRegistry_presenceWindowClose : Keeps HeatRegistry presenceWindowClose := by
  intro s hs
  unfold presenceWindowClose; split
  next attempt =>
    have line := quiet_bringHeadLine true s
    have brought : HeatRegistry (bringHeadLine true s) :=
      hs.quiet line (by rw [bringHeadLine_frame]) (by rw [bringHeadLine_frame]) (by rw [bringHeadLine_frame])
    refine heatRegistry_attemptFails _ _ ?_ (brought.quiet (quiet_bringTo _ _ _) rfl rfl rfl)
    exact fun idle => by rw [line.idle.1 idle] at attempt; cases attempt
  all_goals exact hs

theorem heatRegistry_attemptJudged : Keeps HeatRegistry attemptJudged := by
  intro s hs
  unfold attemptJudged; split
  next bytes attempt =>
    split
    · exact hs
    · split
      next number judged => exact heatRegistry_deliverOutcome (judged ▸ judge_ne_zero bytes) s hs
      · refine heatRegistry_attemptFails _ _ ?_ (hs.quiet (quiet_bringTo _ _ s) rfl rfl rfl)
        rw [State.modReader_reader, Reader.bringTo_state, attempt]; nofun
  all_goals exact hs

/-! ## The lines of a bay -/

theorem heatRegistry_modDoor (b : Bay) (f : DoorWatch → DoorWatch) : Keeps HeatRegistry (State.modDoor b f) :=
  fun s hs => hs.same (sameHeat_modDoor b f s)

theorem heatRegistry_modLines (b : Bay) (f : LineSample → LineSample) : Keeps HeatRegistry (State.modLines b f) :=
  fun s hs => hs.quiet (quiet_modLines b f s) rfl rfl rfl

theorem heatRegistry_connect (b : Bay) : Keeps HeatRegistry (connect b) := fun s hs =>
  ⟨registry_connect b s hs.1, heat_connect hs.1 hs.2⟩

theorem heatRegistry_disconnect (b : Bay) : Keeps HeatRegistry (disconnect b) := fun s hs =>
  ⟨registry_disconnect b s hs.1, heat_disconnect hs.1 hs.2⟩

theorem heatRegistry_acceptDoor (b : Bay) (closed : Bool) : Keeps HeatRegistry (acceptDoor b closed) :=
  fun s hs => hs.same (sameHeat_acceptDoor b s closed)

theorem heatRegistry_acceptOvc (b : Bay) (closed : Bool) : Keeps HeatRegistry (acceptOvc b closed) := by
  intro s hs
  have accepted := heatRegistry_modDoor b (fun d => { d with ovc := .ofLevel closed, ovcLine := .none }) s hs
  simp only [acceptOvc]; split
  next tripped => exact ⟨registry_keptByWork.trip _ b accepted.1 tripped.2, heat_trip accepted.refs accepted.2⟩
  · exact accepted

theorem heatRegistry_senseAcceptance (b : Bay) (level : Bool) : Keeps HeatRegistry (senseAcceptance b level) := by
  intro s hs
  have stands := heatRegistry_modLines b (fun x => { x with sense := level }) s hs
  unfold senseAcceptance; split
  · exact hs
  · dsimp only
    split
    · exact heatRegistry_connect b _ stands
    · exact heatRegistry_disconnect b _ stands

theorem heatRegistry_doorAcceptance (b : Bay) (closed : Bool) : Keeps HeatRegistry (doorAcceptance b closed) := by
  intro s hs
  unfold doorAcceptance; split
  · exact heatRegistry_acceptDoor b closed _ (heatRegistry_modLines b _ s hs)
  · exact hs

theorem heatRegistry_runAcceptance (b : Bay) (active : Bool) : Keeps HeatRegistry (runAcceptance b active) := by
  intro s hs
  unfold runAcceptance; split
  · exact heatRegistry_modDoor b _ _ (heatRegistry_modLines b _ s hs)
  · exact hs

theorem heatRegistry_overcurrentAcceptance (b : Bay) (closed : Bool) :
    Keeps HeatRegistry (overcurrentAcceptance b closed) := by
  intro s hs
  unfold overcurrentAcceptance; split
  · exact heatRegistry_acceptOvc b closed _ (heatRegistry_modLines b _ s hs)
  · exact hs

theorem heatRegistry_senseSample (b : Bay) (level : Bool) : Keeps HeatRegistry (senseSample b level) := by
  intro s hs
  unfold senseSample; split
  · exact hs.quiet (quiet_modBay s fun _ => rfl) rfl rfl rfl
  · split
    · split
      · exact heatRegistry_connect b s hs
      · exact heatRegistry_disconnect b s hs
    · exact hs.quiet (quiet_modBay s fun _ => rfl) rfl rfl rfl

theorem heatRegistry_watchedSamples (b : Bay) (x : LineSample) : Keeps HeatRegistry (watchedSamples b x) := by
  have door : Keeps HeatRegistry (doorSample b x.door) := by
    intro s hs
    simp only [doorSample]; split
    · exact heatRegistry_acceptDoor b _ s hs
    · exact heatRegistry_modDoor b _ s hs
  have run : Keeps HeatRegistry (runSample b x.run) := by
    intro s hs
    simp only [runSample]; split <;> exact heatRegistry_modDoor b _ s hs
  have ovc : Keeps HeatRegistry (ovcSample b x.ovc) := by
    intro s hs
    simp only [ovcSample]; split
    · exact heatRegistry_acceptOvc b _ s hs
    · exact heatRegistry_modDoor b _ s hs
  intro s hs
  unfold watchedSamples; split
  · exact ovc _ (run _ (door s hs))
  · exact hs

theorem heatRegistry_bayTick (samples : Vector LineSample 16) (b : Bay) : Keeps HeatRegistry (bayTick samples b) := by
  intro s hs
  simp only [bayTick]; split
  · split
    · exact heatRegistry_watchedSamples b _ _ (heatRegistry_senseSample b _ s hs)
    · exact heatRegistry_senseSample b _ s hs
  · exact heatRegistry_senseSample b _ _ (heatRegistry_watchedSamples b _ s hs)

/-! ## Every row -/

theorem heatRegistry_keptByRows : KeptByRows HeatRegistry where
  queue s waiting hs := hs.same (.of_eq rfl rfl rfl rfl rfl)
  link _ s hs := hs.same (.of_eq rfl rfl rfl rfl rfl)
  timer _ s hs := hs.same (.of_eq rfl rfl rfl rfl rfl)
  outside _ s hs := hs.same (.of_eq rfl rfl rfl rfl rfl)
  converter _ s hs := hs.same (.of_eq rfl rfl rfl rfl rfl)
  request r s hs := ⟨registry_keptByWork.runRequest r hs.1, heat_runRequest r hs⟩
  beginReset cause s := ⟨registry_beginReset cause s, heatInv_reset.same (.of_eq rfl rfl rfl rfl rfl)⟩
  resetOver _ s hs := hs.same (.of_eq rfl rfl rfl rfl rfl)
  openRound s hs := hs.same (.of_eq rfl rfl rfl rfl rfl)
  bayRound := heatRegistry_bayRound
  pointWork := heatRegistry_pointWork
  intervalExpiry := heatRegistry_roundPart intervalExpiryAt_eq
  expiryInWaiting := heatRegistry_roundPart expiryInWaitingAt_eq
  endByMaximum := heatRegistry_roundPart endByMaximumAt_eq
  dripEnd := heatRegistry_roundPart dripEndAt_eq
  deliverReading ch x s hs :=
    ⟨registry_keptByWork.deliverReading ch x s hs.1, heat_deliverReading hs.refs hs.2 ch x⟩
  wakeEnd s hs := hs.quiet (quiet_wakeEnd s) rfl rfl rfl
  presenceSeen s hs := hs.quiet (quiet_presenceSeen s) (by rw [presenceSeen_frame]) (by rw [presenceSeen_frame])
    (by rw [presenceSeen_frame])
  presenceWindowClose := heatRegistry_presenceWindowClose
  attemptJudged := heatRegistry_attemptJudged
  spacingEnd s hs := hs.quiet (quiet_spacingEnd s) rfl rfl rfl
  bitSlotSample high s hs := hs.quiet (quiet_bitSlotSample high s) (by rw [bitSlotSample_frame])
    (by rw [bitSlotSample_frame]) (by rw [bitSlotSample_frame])
  senseAcceptance := heatRegistry_senseAcceptance
  doorAcceptance := heatRegistry_doorAcceptance
  runAcceptance := heatRegistry_runAcceptance
  overcurrentAcceptance := heatRegistry_overcurrentAcceptance
  powerGoodWaitEnd b s hs := by
    refine hs.quiet (quiet_powerGoodWaitEnd b s) ?_ ?_ ?_ <;> (unfold powerGoodWaitEnd; split <;> rfl)
  bayTick := heatRegistry_bayTick
  microsecond s hs := by
    refine hs.quiet (quiet_microsecond s) ?_ ?_ ?_ <;> (simp only [microsecond]; split <;> rfl)

/-- Settles O58: together with the registry, the agreement of permits, grants and records is kept by the work of every
row. -/
theorem stepKeepsHeatWithGrants : Obligations.StepKeepsHeatWithGrants := fun _ _ hr hs ht =>
  (heatRegistry_keptByRows.step ⟨hr, hs⟩ ht).2

end Sys2Proof.Machine

namespace Sys2Proof.Machine

/-! # DEFROST_NOW and DEFROST_STOP, and the defrost's work at a round start (O21, O22) -/

/-! ## The host's commands (R122, R123) -/

section
variable {s : State} {n : TrailerNo} {i : SlotIx} {r : Record}

/-- R123: DEFROST_NOW of a record that is not PARKED, or is HEATING or DRIPPING. -/
theorem defrostNow_refused (hn : n ≠ 0) (hi : s.slotOf n = some i) (hr : s.table[i] = some r)
    (h : r.place.bay? = none ∨ r.defrost.state.code = 2 ∨ r.defrost.state.code = 3) :
    defrostNow n s = (s, refusal .wrongState) := by
  rw [defrostNow, onNamed_known hn hi hr]
  split
  next parked =>
    have late := h.resolve_left (Option.isSome_iff_ne_none.1 parked)
    cases hd : r.defrost.state with
    | idle => rw [hd] at late; exact absurd late (by decide)
    | waiting c => rw [hd] at late; simp [DefrostState.code] at late
    | heating g => rfl
    | dripping => rfl
  · rfl

/-- R123: DEFROST_NOW of a PARKED record in IDLE. -/
theorem defrostNow_idle (hn : n ≠ 0) (hi : s.slotOf n = some i) (hr : s.table[i] = some r)
    (parked : r.place.bay?.isSome = true) (idle : r.defrost.state = .idle) :
    defrostNow n s = (s.putSlot i (some { r with defrost :=
      { r.defrost with state := .waiting .urgent, intervalCount := r.settings.interval * 60 } }), okay []) := by
  rw [defrostNow, onNamed_known hn hi hr, if_pos parked]
  simp only [idle]
  rfl

/-- R123: DEFROST_NOW of a PARKED record in WAITING. -/
theorem defrostNow_waiting (hn : n ≠ 0) (hi : s.slotOf n = some i) (hr : s.table[i] = some r)
    (parked : r.place.bay?.isSome = true) {c : DefrostClass} (waiting : r.defrost.state = .waiting c) :
    defrostNow n s =
      (s.putSlot i (some { r with defrost := { r.defrost with state := .waiting .urgent } }), okay []) := by
  rw [defrostNow, onNamed_known hn hi hr, if_pos parked]
  simp only [waiting]
  rfl

/-- R122: DEFROST_STOP of a record in IDLE or DRIPPING. -/
theorem defrostStop_nothing (hn : n ≠ 0) (hi : s.slotOf n = some i) (hr : s.table[i] = some r)
    (h : r.defrost.state = .idle ∨ r.defrost.state = .dripping) : defrostStop n s = (s, okay []) := by
  rw [defrostStop, onNamed_known hn hi hr]
  rcases h with idle | dripping
  · simp only [idle]
  · simp only [dripping]

/-- R122: DEFROST_STOP of a record in WAITING. -/
theorem defrostStop_waiting (hn : n ≠ 0) (hi : s.slotOf n = some i) (hr : s.table[i] = some r) {c : DefrostClass}
    (waiting : r.defrost.state = .waiting c) :
    defrostStop n s = (s.putSlot i (some { r with defrost :=
      { r.defrost with state := .idle, intervalCount := r.settings.interval * 60 } }), okay []) := by
  rw [defrostStop, onNamed_known hn hi hr]
  simp only [waiting]
  rfl

/-- R122: DEFROST_STOP of a record HEATING at its bay. -/
theorem defrostStop_heating (hn : n ≠ 0) (hi : s.slotOf n = some i) (hr : s.table[i] = some r) {g : DefrostClass}
    {b : Bay} (heating : r.defrost.state = .heating g) (parked : r.place.bay? = some b) :
    defrostStop n s = (endHeating b r s, okay []) := by
  rw [defrostStop, onNamed_known hn hi hr]
  simp only [heating, parked]

end

/-- Settles O21: each command by its checks, then by the defrost state of the record. -/
theorem defrostCommandsActByState : Obligations.DefrostCommandsActByState := by
  intro s n ready
  refine ⟨?_, fun hn unknown => ?_, fun i r hn hi hr => ?_⟩
  · rintro rfl
    exact ⟨exec_answers rfl ready rfl, exec_answers rfl ready rfl⟩
  · exact ⟨exec_answers rfl ready (onNamed_unknown hn unknown), exec_answers rfl ready (onNamed_unknown hn unknown)⟩
  · intro load put
    refine ⟨fun h => exec_answers rfl ready (defrostNow_refused hn hi hr h),
      fun parked idle => exec_answers rfl ready (defrostNow_idle hn hi hr parked idle),
      fun c parked waiting => exec_answers rfl ready (defrostNow_waiting hn hi hr parked waiting),
      fun h => exec_answers rfl ready (defrostStop_nothing hn hi hr h),
      fun c waiting => exec_answers rfl ready (defrostStop_waiting hn hi hr waiting),
      fun g b heating parked => exec_answers rfl ready (defrostStop_heating hn hi hr heating parked)⟩

/-! ## The round start at a record (R114, R115, R119, R121) -/

section
variable {s : State} {b : Bay} {i : SlotIx} {r : Record}

theorem clockRuns_eq (mode : ClockMode) (run : RunState) : clockRuns mode run = (mode == .wall || run == .running) := by
  cases mode <;> cases run <;> rfl

/-- A change of the defrost figures of the record a bay refers to. -/
theorem modDefrost_eq_putSlot (hi : s.bays[b].ref = some i) (hr : s.table[i] = some r)
    (f : DefrostFigures → DefrostFigures) :
    s.modParked b (Record.modDefrost f) = s.putSlot i (some { r with defrost := f r.defrost }) :=
  State.modParked_eq_putSlot hi hr _

/-- R114: in IDLE a round start counts the interval while its clock runs, and its end brings a NORMAL request. -/
theorem defrostRound_idle (hi : s.bays[b].ref = some i) (hr : s.table[i] = some r) (idle : r.defrost.state = .idle) :
    defrostRound b s =
      if clockRuns r.settings.clockMode s.doors[b].run then
        s.putSlot i (some { r with defrost := if r.defrost.intervalCount ≤ 1 then
            { r.defrost with state := .waiting .normal, intervalCount := r.settings.interval * 60 }
          else { r.defrost with intervalCount := r.defrost.intervalCount - 1 } })
      else s := by
  simp only [defrostRound, State.recordAt_eq_some.2 ⟨i, hi, hr⟩, idle, expireIdle, modDefrost_eq_putSlot hi hr]
  split
  · split <;> rfl
  · rfl

/-- R115: in WAITING the end of the count makes the request URGENT and is reported. -/
theorem defrostRound_waiting (hi : s.bays[b].ref = some i) (hr : s.table[i] = some r) {c : DefrostClass}
    (waiting : r.defrost.state = .waiting c) : defrostRound b s =
      if clockRuns r.settings.clockMode s.doors[b].run then
        if r.defrost.intervalCount ≤ 1 then
          raiseAt .defrostLate b (some r.number) none (s.putSlot i (some { r with defrost :=
            { r.defrost with state := .waiting .urgent, intervalCount := r.settings.interval * 60 } }))
        else s.putSlot i (some { r with defrost := { r.defrost with intervalCount := r.defrost.intervalCount - 1 } })
      else s := by
  simp only [defrostRound, State.recordAt_eq_some.2 ⟨i, hi, hr⟩, waiting, expireWaiting, modDefrost_eq_putSlot hi hr]
  rfl

/-- R119: in HEATING a round start counts the heat rounds up to their maximum. -/
theorem defrostRound_heating (hi : s.bays[b].ref = some i) (hr : s.table[i] = some r) {g : DefrostClass}
    (heating : r.defrost.state = .heating g) : defrostRound b s =
      if r.settings.maxHeat ≤ r.defrost.heatRounds + 1 then
        endHeating b { r with defrost := { r.defrost with heatRounds := r.defrost.heatRounds + 1 } }
          (raiseAt .defrostLong b (some r.number) (some (.rounds (r.defrost.heatRounds + 1))) s)
      else s.putSlot i (some { r with defrost := { r.defrost with heatRounds := r.defrost.heatRounds + 1 } }) := by
  simp only [defrostRound, State.recordAt_eq_some.2 ⟨i, hi, hr⟩, heating, expireHeating, modDefrost_eq_putSlot hi hr]
  rfl

/-- R121: in DRIPPING a round start counts the drip, and its end brings IDLE. -/
theorem defrostRound_dripping (hi : s.bays[b].ref = some i) (hr : s.table[i] = some r)
    (dripping : r.defrost.state = .dripping) : defrostRound b s =
      s.putSlot i (some { r with defrost := if r.defrost.dripCount ≤ 1 then
          { r.defrost with state := .idle, dripCount := 0, intervalCount := r.settings.interval * 60 }
        else { r.defrost with dripCount := r.defrost.dripCount - 1 } }) := by
  simp only [defrostRound, State.recordAt_eq_some.2 ⟨i, hi, hr⟩, dripping, expireDrip, modDefrost_eq_putSlot hi hr]
  split <;> rfl

/-- R117: the defrost figures after an end of heating. -/
theorem Record.afterHeating_eq (r : Record) (d : DefrostFigures) :
    Record.afterHeating { r with defrost := d } =
      if r.settings.drip = 0 then
        { d with state := .idle, completed := min 65535 (d.completed + 1), intervalCount := r.settings.interval * 60 }
      else { d with state := .dripping, completed := min 65535 (d.completed + 1), dripCount := r.settings.drip } := rfl

/-- R117: an end of heating of the record in its slot. -/
theorem endHeating_eq (hi : s.bays[b].ref = some i) (hr : s.table[i] = some r) (d : DefrostFigures) :
    endHeating b { r with defrost := d } s = raiseAt .defrostEnd b (some r.number) (some (.rounds d.heatRounds))
      { s with
        feeder := s.feeder.release b
        heat := s.heat.set b.val false
        table := s.table.set i.val (some { r with defrost := Record.afterHeating { r with defrost := d } }) } := by
  rw [endHeating, modDefrost_eq_putSlot (s := (s.modFeeder (Feeder.release b)).setHeat b false) hi hr]
  rfl

end

/-- Settles O22: the round start by the defrost state and its count, and the end of heating by its parts. -/
theorem roundStartAdvancesOneDefrostCount : Obligations.RoundStartAdvancesOneDefrostCount := by
  refine ⟨fun s b i r hi hr => ?_, fun s b i r d hi hr => ?_⟩
  · intro load clock put
    have runs : clockRuns r.settings.clockMode s.doors[b].run = clock := clockRuns_eq _ _
    refine ⟨fun stopped h => ?_, fun on idle more => ?_, fun on idle last => ?_, fun c on waiting more => ?_,
      fun c on waiting last => ?_, fun g heating more => ?_, fun g heating last => ?_, fun dripping more => ?_,
      fun dripping last => ?_⟩
    · rcases h with idle | ⟨c, waiting⟩
      · rw [defrostRound_idle hi hr idle, runs, stopped]; rfl
      · rw [defrostRound_waiting hi hr waiting, runs, stopped]; rfl
    · rw [defrostRound_idle hi hr idle, runs, if_pos on, if_neg (Nat.not_le.2 more)]
    · rw [defrostRound_idle hi hr idle, runs, if_pos on, if_pos (Nat.le_of_eq last)]
    · rw [defrostRound_waiting hi hr waiting, runs, if_pos on, if_neg (Nat.not_le.2 more)]
    · rw [defrostRound_waiting hi hr waiting, runs, if_pos on, if_pos (Nat.le_of_eq last)]
    · rw [defrostRound_heating hi hr heating, if_neg (Nat.not_le.2 more)]
    · rw [defrostRound_heating hi hr heating, if_pos last]
    · rw [defrostRound_dripping hi hr dripping, if_neg (Nat.not_le.2 more)]
    · rw [defrostRound_dripping hi hr dripping, if_pos (Nat.le_of_eq last)]
  · rw [endHeating_eq hi hr, Record.afterHeating_eq]
    rfl

end Sys2Proof.Machine

namespace Sys2Proof.Machine

/-! # What the feeder arbiter's operations keep (R126 to R141)

`RankInv` and `BudgetInv` speak of the arbiter alone, and each of its operations keeps what they ask of it. -/

/-! ## Granted loads -/

theorem Feeder.loadSum_append (older newer : List Grant) :
    loadSum (older ++ newer) = loadSum older + loadSum newer := by
  rw [loadSum, loadSum, loadSum, List.map_append, List.sum_append]

theorem Feeder.loadSum_reverse (grants : List Grant) : loadSum grants.reverse = loadSum grants := by
  rw [loadSum, loadSum, List.map_reverse, List.sum_reverse]

/-- Grants that leave the list take no load along that the list did not hold. -/
theorem Feeder.loadSum_filter_le (p : Grant → Bool) (grants : List Grant) :
    loadSum (grants.filter p) ≤ loadSum grants :=
  (List.filter_sublist.map Grant.load).sum_le_sum fun _ _ => Nat.zero_le _

/-! ## The grants that a capacity leaves (R141) -/

theorem Feeder.loadSum_dropNewest_le (limit : Nat) (newest : List Grant) :
    loadSum (dropNewest limit newest) ≤ limit := by
  induction newest with
  | nil => exact Nat.zero_le limit
  | cons g older ih =>
    unfold dropNewest; split
    · exact ih
    next fits => exact Nat.not_lt.1 fits

/-- Older grants that fit are never shed: of those that fit, the longest list is kept. -/
theorem Feeder.suffix_dropNewest {limit : Nat} {newest q : List Grant} (h : q <:+ newest) (fits : loadSum q ≤ limit) :
    q <:+ dropNewest limit newest := by
  induction newest with
  | nil => exact h
  | cons g older ih =>
    unfold dropNewest; split
    next exceeds =>
      rcases List.suffix_cons_iff.1 h with rfl | inner
      · exact absurd fits (Nat.not_le.2 exceeds)
      · exact ih inner
    · exact h

/-- R141: the loads kept fit. -/
theorem Feeder.loadSum_fit_le (limit : Nat) (grants : List Grant) : loadSum (fit limit grants) ≤ limit := by
  rw [fit, loadSum_reverse]
  exact loadSum_dropNewest_le limit grants.reverse

/-- R141: no more is shed than has to be. -/
theorem Feeder.prefix_fit {limit : Nat} {grants p : List Grant} (h : p <+: grants) (fits : loadSum p ≤ limit) :
    p <+: fit limit grants := by
  rw [fit, ← List.reverse_suffix, List.reverse_reverse]
  exact suffix_dropNewest (List.reverse_suffix.2 h) (by rwa [loadSum_reverse])

/-- R141: the grants kept and those shed make up the list. -/
theorem Feeder.fit_append_drop (limit : Nat) (grants : List Grant) :
    grants = fit limit grants ++ grants.drop (fit limit grants).length :=
  List.prefix_iff_eq_append.1 (fit_prefix limit grants) |>.symm

/-! # SET of FEEDER_UNITS (O43) -/

/-- R129: the echo of FEEDER_UNITS reads the arbiter as the capacity leaves it. -/
theorem setFeederUnits_echo (c : Nat) (s : State) : echoValues .feederUnits (setFeederUnits c s) =
    [c, min s.feeder.shed c, Feeder.loadSum (Feeder.fit (c - min s.feeder.shed c) s.feeder.grants)] := by
  show (setFeederUnits c s).feeder.echo = _
  rw [setFeederUnits, feeder_returned]
  rfl

/-- R129, R173: SET of FEEDER_UNITS stores the capacity clamped and answers what stands then. -/
theorem exec_setFeederUnits {s : State} (v : Word) (ready : s.ready) : exec (.setFeederUnits v) s =
    .next ((setFeederUnits (min 8 v.toNat) s).answering (.set 10 v)
      (okay (settingAnswer 10 (echoValues .feederUnits (setFeederUnits (min 8 v.toNat) s))))) := by
  refine exec_answers (r := .set 10 v) rfl ready ?_
  have stored : storeSetting .feederUnits v.toNat s = some (setFeederUnits (min 8 v.toNat) s) := by
    rw [storeSetting, clamp_zero]
  show setNamed .feederUnits v.toNat s = _
  simp only [setNamed, stored]
  rfl

/-- Settles O43: what is kept is the longest list of the oldest grants that fits. -/
theorem feederUnitsShedWhatNoLongerFits : Obligations.FeederUnitsShedWhatNoLongerFits := by
  intro s v ready units shed
  refine ⟨Feeder.fit (units - shed) s.feeder.grants,
    s.feeder.grants.drop (Feeder.fit (units - shed) s.feeder.grants).length, Feeder.fit_append_drop _ _,
    Feeder.loadSum_fit_le _ _, fun p q split fits => (Feeder.prefix_fit ⟨q, split.symm⟩ fits).length_le, ?_⟩
  rw [exec_setFeederUnits v ready, setFeederUnits_echo]
  simp only [settingAnswer, List.flatMap_cons, List.flatMap_nil, List.append_nil]
  rfl

end Sys2Proof.Machine

namespace Sys2Proof.Machine

/-! # The feeder arbiter keeps its ranks and its budget (R128, R138) -/

/-- R128, R138: what `RankInv` and `BudgetInv` ask of the arbiter. -/
structure Feeder.Sound (f : Feeder) : Prop where
  range : ∀ b : Bay, f.rank[b] < 16
  apart : ∀ b c : Bay, f.rank[b] = f.rank[c] → b = c
  budget : f.shed + Feeder.loadSum f.grants ≤ f.units

theorem feederSound_iff {s : State} : s.feeder.Sound ↔ RankInv s ∧ BudgetInv s :=
  ⟨fun h => ⟨⟨h.range, h.apart⟩, h.budget⟩, fun h => ⟨h.1.1, h.1.2, h.2⟩⟩

/-! ## The rotation of ranks (R138) -/

theorem Feeder.rankAfter_granted (b : Bay) (r old : Nat) : rankAfter b r b old = 0 := if_pos rfl

theorem Feeder.rankAfter_other {b c : Bay} (h : c ≠ b) (r old : Nat) :
    rankAfter b r c old = if old < r then old + 1 else old := if_neg h

theorem Feeder.rotate_rank (b c : Bay) (f : Feeder) : (f.rotate b).rank[c] = rankAfter b f.rank[b] c f.rank[c] :=
  Vector.getElem_ofFn _

/-- R138: the bays below the granted one move up by one and the others stay, so 0 is left for the granted bay alone. -/
theorem Feeder.rankAfter_injective {f : Feeder} (h : f.Sound) {b c d : Bay}
    (e : rankAfter b f.rank[b] c f.rank[c] = rankAfter b f.rank[b] d f.rank[d]) : c = d := by
  have differ {x : Bay} (hx : x ≠ b) : f.rank[x] ≠ f.rank[b] := fun same => hx (h.apart x b same)
  by_cases hc : c = b <;> by_cases hd : d = b
  · rw [hc, hd]
  · have below := differ hd
    rw [hc, rankAfter_granted, rankAfter_other hd] at e
    split at e <;> omega
  · have below := differ hc
    rw [hd, rankAfter_granted, rankAfter_other hc] at e
    split at e <;> omega
  · have apart := differ hc
    have apart' := differ hd
    rw [rankAfter_other hc, rankAfter_other hd] at e
    exact h.apart c d (by split at e <;> split at e <;> omega)

theorem Feeder.rankAfter_lt {f : Feeder} (h : f.Sound) (b c : Bay) : rankAfter b f.rank[b] c f.rank[c] < 16 := by
  have granted := h.range b
  have own := h.range c
  unfold rankAfter
  split
  · omega
  · split <;> omega

/-! ## The operations of the arbiter -/

section
variable {f g : Feeder}

/-- Work that leaves the arbiter as it is. -/
theorem Feeder.Sound.of_eq (h : f.Sound) (e : g = f) : g.Sound := e ▸ h

/-- An operation on no unit, load or rank. -/
theorem Feeder.Sound.same (h : f.Sound) (rank : g.rank = f.rank) (units : g.units = f.units) (shed : g.shed = f.shed)
    (grants : g.grants = f.grants) : g.Sound :=
  ⟨by rw [rank]; exact h.range, by rw [rank]; exact h.apart, by rw [units, shed, grants]; exact h.budget⟩

/-- An operation on no rank. -/
theorem Feeder.Sound.reloaded (h : f.Sound) (rank : g.rank = f.rank) (budget : g.shed + loadSum g.grants ≤ g.units) :
    g.Sound :=
  ⟨by rw [rank]; exact h.range, by rw [rank]; exact h.apart, budget⟩

theorem Feeder.sound_reset : Feeder.reset.Sound := feederSound_iff.2 ⟨rankInv_reset, budgetInv_reset⟩

/-- R139: a grant released frees its units. -/
theorem Feeder.Sound.release (h : f.Sound) (b : Bay) : (f.release b).Sound :=
  h.reloaded rfl ((Nat.add_le_add_left (loadSum_filter_le _ f.grants) f.shed).trans h.budget)

theorem Feeder.Sound.latch (h : f.Sound) (v : Verdict) : (f.latch v).Sound := h.same rfl rfl rfl rfl

/-- R132: the units of the newest grant pass to the shed units. -/
theorem Feeder.Sound.sagged (h : f.Sound) : f.sagged.Sound := by
  rcases List.eq_nil_or_concat' f.grants with nil | ⟨older, g, list⟩
  · rw [Feeder.sagged, nil, List.getLast?_nil]
    exact h.same rfl rfl rfl nil.symm
  · have budget := h.budget
    rw [list, loadSum_append] at budget
    have newest : loadSum [g] = g.load := rfl
    rw [Feeder.sagged, list, List.getLast?_concat, List.dropLast_concat]
    refine h.reloaded rfl ?_
    show min f.units (f.shed + g.load) + loadSum older ≤ f.units
    omega

/-- R133: a unit restored is no longer shed. -/
theorem Feeder.Sound.restored (h : f.Sound) : f.restored.Sound := by
  unfold Feeder.restored; split
  · exact h
  · split
    · exact h.reloaded rfl ((Nat.add_le_add_right (Nat.sub_le f.shed 1) _).trans h.budget)
    · exact h.same rfl rfl rfl rfl

/-- R137, R138: a grant whose load is free, and the rotation it brings. -/
theorem Feeder.Sound.grant (h : f.Sound) (b : Bay) {load : Nat} (now : Round) (fits : load ≤ f.free) :
    (f.grant b load now).Sound := by
  have rank (c : Bay) : (f.grant b load now).rank[c] = rankAfter b f.rank[b] c f.rank[c] := rotate_rank b c _
  refine ⟨fun c => ?_, fun c d e => ?_, ?_⟩
  · rw [rank]; exact rankAfter_lt h b c
  · rw [rank, rank] at e; exact rankAfter_injective h e
  · have budget := h.budget
    have single : loadSum [{ bay := b, load := load, round := now : Grant }] = load := rfl
    show f.shed + loadSum (f.grants ++ [_]) ≤ f.units
    rw [Feeder.free] at fits
    rw [loadSum_append]
    omega

/-- R141: the shed units and the grants kept fit the capacity. -/
theorem Feeder.Sound.setUnits (h : f.Sound) (c : Nat) : (f.setUnits c).Sound := by
  refine h.reloaded rfl ?_
  show min f.shed c + loadSum (fit (c - min f.shed c) f.grants) ≤ c
  have kept := loadSum_fit_le (c - min f.shed c) f.grants
  omega

end

/-! ## The points of the round, the capacity -/

/-- R132: what a SAG verdict does to the arbiter before it latches. -/
theorem shedNewest_feeder (s : State) : (shedNewest s).feeder = s.feeder.sagged := by
  unfold shedNewest; split
  · rw [heatingToWaiting_frame]; rfl
  · rfl

theorem feederSound_checkPoint {s : State} (h : s.feeder.Sound) : (checkPoint s).feeder.Sound := by
  cases verdict : s.feeder.judge s.outside.fsense with
  | sag =>
    rw [checkPoint_sag verdict]
    show ((shedNewest s).feeder.latch .sag).Sound
    rw [shedNewest_feeder]
    exact h.sagged.latch .sag
  | clear =>
    rw [checkPoint_clear verdict]
    exact h.restored.latch .clear

theorem grantAt_feeder (b : Bay) (c : DefrostClass) (load : Nat) (s : State) :
    (grantAt b c load s).feeder = s.feeder.grant b load s.timer.number := by
  rw [grantAt, State.setHeat_feeder, State.modParked_feeder, State.modFeeder_feeder]

/-- R137: the walk grants only a load that is free. -/
theorem feederSound_grantWalk (l : List Bay) {s : State} (h : s.feeder.Sound) : (grantWalk l s).feeder.Sound := by
  induction l generalizing s with
  | nil => exact h
  | cons b rest ih =>
    unfold grantWalk; split
    · split
      · exact ih h
      · split
        next fits =>
          refine ih ?_
          rw [grantAt_feeder]
          exact h.grant b s.timer.number fits
        · exact h
    · exact ih h

theorem feederSound_pointWork (p : Point) : Keeps (fun s => s.feeder.Sound) (pointWork p) := by
  intro s h
  cases p with
  | check => exact feederSound_checkPoint h
  | grant => exact feederSound_grantWalk _ h
  | sweep => exact h

theorem setFeederUnits_feeder (c : Nat) (s : State) : (setFeederUnits c s).feeder = s.feeder.setUnits c := by
  rw [setFeederUnits, feeder_returned, State.modFeeder_feeder]

end Sys2Proof.Machine

namespace Sys2Proof.Machine

/-! # What the bays do to the arbiter (R46, R117, R139)

At a bay the part does no more to the arbiter than to release the bay's grant. -/

/-- R139: the arbiter is as before, or without the grant of bay `b`. -/
def Releases (b : Bay) (s t : State) : Prop := t.feeder = s.feeder ∨ t.feeder = s.feeder.release b

section
variable {b : Bay} {s t u : State}

theorem Releases.sound (g : Releases b s t) (h : s.feeder.Sound) : t.feeder.Sound := by
  rcases g with same | released
  · exact h.of_eq same
  · exact (h.release b).of_eq released

/-- R139: a grant that has left the list is released no second time. -/
theorem Feeder.release_release (b : Bay) (f : Feeder) : (f.release b).release b = f.release b := by
  simp only [Feeder.release, List.filter_filter, Bool.and_self]

theorem Releases.trans (g : Releases b s t) (k : Releases b t u) : Releases b s u := by
  rcases g with same | released
  · rw [Releases, ← same]; exact k
  · rw [Releases, released, Feeder.release_release, or_self] at k
    exact .inr k

/-! ## The defrost cycle -/

theorem defrostLeavesServing_feeder (b : Bay) (s : State) : (defrostLeavesServing b s).feeder = s.feeder.release b := by
  rw [defrostLeavesServing, State.modFeeder_feeder, heatingToWaiting_frame]

theorem endHeating_feeder (b : Bay) (r : Record) (s : State) : (endHeating b r s).feeder = s.feeder.release b := by
  rw [endHeating, raiseAt_feeder, State.modParked_feeder, State.setHeat_feeder, State.modFeeder_feeder]

theorem releases_defrostRound (b : Bay) (s : State) : Releases b s (defrostRound b s) := by
  unfold defrostRound; split
  · exact .inl rfl
  · split
    · split
      · split
        · exact .inl (by rw [expireIdle_frame])
        · exact .inl (State.modParked_feeder b _ s)
      · exact .inl rfl
    · split
      · split
        · exact .inl (by rw [expireWaiting_frame])
        · exact .inl (State.modParked_feeder b _ s)
      · exact .inl rfl
    · split
      · exact .inr (endHeating_feeder b _ _)
      · exact .inl (State.modParked_feeder b _ s)
    · split
      · exact .inl (by rw [expireDrip_frame])
      · exact .inl (State.modParked_feeder b _ s)

/-- A row that is a part of the round start's work at a record (log 8). -/
theorem releases_roundPart (part : t = s ∨ t = defrostRound b s) : Releases b s t := by
  rcases part with rfl | rfl
  · exact .inl rfl
  · exact releases_defrostRound b s

/-- The round start at a bay: of its parts the defrost count alone can release the grant. -/
theorem releases_bayRound (b : Bay) (s : State) : Releases b s (bayRound b s) := by
  have counted : Releases b s (defrostRound b (channelRound b s)) :=
    Releases.trans (.inl (by rw [channelRound_frame])) (releases_defrostRound b _)
  exact counted.trans (.inl (by rw [bayRound, doorRound_frame, retry_frame]))

/-- R118: a result that ends the heating releases the grant. -/
theorem releases_probeResult (b : Bay) (n : Nat) (s : State) : Releases b s (probeResult b n s) := by
  unfold probeResult; split
  · exact .inl rfl
  · dsimp only
    split
    · split
      · exact .inr ((endHeating_feeder b _ _).trans (by simp))
      · exact .inl (by simp)
    · exact .inl (by simp)

theorem releases_deliverReading (ch : Channel) (x : Reading) (s : State) :
    Releases ch.bay s (deliverReading ch x s) := by
  unfold deliverReading; split
  · exact .inl (by rw [fuelResult_frame])
  · exact .inl (by rw [fuelError_frame])
  · exact releases_probeResult ch.bay _ s
  · exact .inl (by rw [probeError_frame])

/-! ## A bay that leaves SERVING -/

theorem releases_trip (b : Bay) (s : State) : Releases b s (trip b s) := .inr (defrostLeavesServing_feeder b _)

theorem releases_disable (b : Bay) (s : State) : Releases b s (disable b s) := by
  cases hb : s.bays[b].state with
  | disabled => rw [disable_disabled hb]; exact .inl rfl
  | empty => rw [disable_empty hb]; exact .inl rfl
  | identifying => rw [disable_identifying hb]; exact .inl rfl
  | held x => rw [disable_held hb]; exact .inl rfl
  | serving => rw [disable_serving hb]; exact .inr (defrostLeavesServing_feeder b _)
  | fault => rw [disable_fault hb]; exact .inl rfl

theorem releases_depart (b : Bay) (s : State) : Releases b s (depart b s) := by
  unfold depart; split
  · exact .inl rfl
  · exact .inr (by simp)

theorem releases_disconnect (b : Bay) (s : State) : Releases b s (disconnect b s) := by
  by_cases hc : s.bays[b].connected = true
  · obtain ⟨-, -, feeder⟩ := disconnect_departed hc
    rw [Releases, feeder]
    exact releases_depart b s
  · rw [disconnect, if_neg hc]; exact .inl rfl

/-! ## The lines of a bay -/

theorem connect_feeder (b : Bay) (s : State) : (connect b s).feeder = s.feeder := by rw [connect_frame]

theorem releases_senseAcceptance (b : Bay) (level : Bool) (s : State) : Releases b s (senseAcceptance b level s) := by
  unfold senseAcceptance; split
  · exact .inl rfl
  · dsimp only
    split
    · exact .inl (connect_feeder b _)
    · exact releases_disconnect b (s.modLines b _)

theorem releases_acceptOvc (b : Bay) (closed : Bool) (s : State) : Releases b s (acceptOvc b closed s) := by
  unfold acceptOvc; dsimp only
  split
  · exact releases_trip b (s.modDoor b _)
  · exact .inl rfl

theorem releases_overcurrentAcceptance (b : Bay) (closed : Bool) (s : State) :
    Releases b s (overcurrentAcceptance b closed s) := by
  unfold overcurrentAcceptance; split
  · exact releases_acceptOvc b closed (s.modLines b _)
  · exact .inl rfl

theorem doorAcceptance_feeder (b : Bay) (closed : Bool) (s : State) :
    (doorAcceptance b closed s).feeder = s.feeder := by
  unfold doorAcceptance; split
  · rw [acceptDoor_frame]; rfl
  · rfl

theorem runAcceptance_feeder (b : Bay) (active : Bool) (s : State) : (runAcceptance b active s).feeder = s.feeder := by
  unfold runAcceptance; split <;> rfl

theorem releases_senseSample (b : Bay) (level : Bool) (s : State) : Releases b s (senseSample b level s) := by
  unfold senseSample; split
  · exact .inl rfl
  · split
    · split
      · exact .inl (connect_feeder b s)
      · exact releases_disconnect b s
    · exact .inl rfl

theorem doorSample_feeder (b : Bay) (level : Bool) (s : State) : (doorSample b level s).feeder = s.feeder := by
  unfold doorSample; dsimp only
  split
  · rw [acceptDoor_frame]
  · rfl

theorem runSample_feeder (b : Bay) (level : Bool) (s : State) : (runSample b level s).feeder = s.feeder := by
  unfold runSample; dsimp only
  split <;> rfl

theorem releases_ovcSample (b : Bay) (level : Bool) (s : State) : Releases b s (ovcSample b level s) := by
  unfold ovcSample; dsimp only
  split
  · exact releases_acceptOvc b level s
  · exact .inl rfl

theorem releases_watchedSamples (b : Bay) (x : LineSample) (s : State) : Releases b s (watchedSamples b x s) := by
  unfold watchedSamples; split
  · have sampled : Releases b s (runSample b x.run (doorSample b x.door s)) :=
      .inl ((runSample_feeder ..).trans (doorSample_feeder ..))
    exact sampled.trans (releases_ovcSample b x.ovc _)
  · exact .inl rfl

theorem releases_bayTick (samples : Vector LineSample 16) (b : Bay) (s : State) :
    Releases b s (bayTick samples b s) := by
  unfold bayTick; dsimp only
  split
  · split
    · exact (releases_senseSample b _ s).trans (releases_watchedSamples b _ _)
    · exact releases_senseSample b _ s
  · exact (releases_watchedSamples b _ s).trans (releases_senseSample b _ _)

end

/-! # What the tag reader and the time base leave the arbiter -/

theorem presenceWindowClose_feeder (s : State) : (presenceWindowClose s).feeder = s.feeder := by
  unfold presenceWindowClose; split
  · rw [attemptFails_frame, bringHeadLine_frame]; rfl
  all_goals rfl

theorem attemptJudged_feeder (s : State) : (attemptJudged s).feeder = s.feeder := by
  unfold attemptJudged; split
  · split
    · rfl
    · split
      · rw [deliverOutcome_frame]
      · rw [attemptFails_frame]; rfl
  all_goals rfl

theorem powerGoodWaitEnd_feeder (b : Bay) (s : State) : (powerGoodWaitEnd b s).feeder = s.feeder := by
  unfold powerGoodWaitEnd; split <;> rfl

theorem microsecond_feeder (s : State) : (microsecond s).feeder = s.feeder := by
  unfold microsecond; dsimp only
  split <;> rfl

end Sys2Proof.Machine

namespace Sys2Proof.Machine

/-! # The requests keep the arbiter sound

Of the requests, SET and those that end a bay's service or heating reach the arbiter; the others leave it as it is. -/

section
variable {s : State}

theorem book_feeder (n : TrailerNo) (a : SettingsArg) : (book n a s).1.feeder = s.feeder := by
  unfold book; split
  · rfl
  · split
    · rfl
    · split <;> rfl

theorem amend_feeder (n : TrailerNo) (a : SettingsArg) : (amend n a s).1.feeder = s.feeder := by
  unfold amend; split
  · rfl
  · refine onNamed_keeps (P := fun t => t.feeder = s.feeder) rfl fun i r _ _ => ?_
    dsimp only
    split
    · split
      · rfl
      · rw [endFuelJudgements_frame]; rfl
    · rfl

theorem retire_feeder (n : TrailerNo) : (retire n s).1.feeder = s.feeder :=
  onNamed_keeps (P := fun t => t.feeder = s.feeder) rfl fun i r _ _ => by split <;> rfl

theorem lookup_feeder (sel : Byte) (op : Word) : (lookup sel op s).1.feeder = s.feeder := by
  unfold lookup; split
  · exact onNamed_keeps (P := fun t => t.feeder = s.feeder) rfl fun _ _ _ _ => rfl
  all_goals rfl

theorem assign_feeder (c : Byte) (n : TrailerNo) : (assign c n s).1.feeder = s.feeder := by
  refine onBay_keeps (P := fun t => t.feeder = s.feeder) rfl fun b => ?_
  split
  · rfl
  · unfold assignAt; split
    · split
      · split
        · rfl
        · rw [park_frame]
      · split
        · rw [park_frame]
        · rfl
    · rfl

theorem rebase_feeder (n : TrailerNo) : (rebase n s).1.feeder = s.feeder := by
  refine onNamed_keeps (P := fun t => t.feeder = s.feeder) rfl fun i r _ _ => ?_
  dsimp only
  split
  · split
    · exact ceaseIf_feeder _ .fuelDrop _ (s.putSlot i _)
    · rfl
  · rfl

theorem defrostNow_feeder (n : TrailerNo) : (defrostNow n s).1.feeder = s.feeder := by
  refine onNamed_keeps (P := fun t => t.feeder = s.feeder) rfl fun i r _ _ => ?_
  split
  · split <;> rfl
  · rfl

theorem commandClearFault_feeder (c : Byte) : (commandClearFault c s).1.feeder = s.feeder := by
  refine onBay_keeps (P := fun t => t.feeder = s.feeder) rfl fun b => ?_
  split
  · split
    · exact enterServing_feeder b (ceaseAt .overcurrent b s)
    · rfl
  · rfl

theorem spot_feeder (c k : Byte) : (spot c k s).1.feeder = s.feeder := by
  refine onBay_keeps (P := fun t => t.feeder = s.feeder) rfl fun b => ?_
  split
  · rfl
  · dsimp only
    split
    · rfl
    · split
      · rfl
      · split <;> rfl

theorem storeCurve_feeder (c : Fin 8) (v : Option Curve) (s : State) : (storeCurve c v s).feeder = s.feeder :=
  Keeps.forBays (P := fun t => t.feeder = s.feeder) (fun b t h => by rw [endFuelJudgements_frame]; exact h) _ _ rfl

theorem curveWrite_feeder (c k n : Byte) (pts : List (Word × Half)) : (curveWrite c k n pts s).1.feeder = s.feeder := by
  unfold curveWrite; split
  · rfl
  · split
    · dsimp only
      split
      · exact storeCurve_feeder _ _ s
      · rfl
    · rfl

theorem curveClear_feeder (c : Byte) : (curveClear c s).1.feeder = s.feeder := by
  unfold curveClear; split
  · rfl
  · split
    · rfl
    · exact storeCurve_feeder _ _ s

/-! ## The requests that reach the arbiter -/

theorem feederSound_defrostStop (n : TrailerNo) (h : s.feeder.Sound) : (defrostStop n s).1.feeder.Sound := by
  refine onNamed_keeps (P := fun t => t.feeder.Sound) h fun i r _ _ => ?_
  split
  · exact h
  · exact h
  · split
    · exact (h.release _).of_eq (endHeating_feeder ..)
    · exact h
  · exact h

theorem feederSound_storeSetting {x : Setting} {v : Nat} {t : State} (stored : storeSetting x v s = some t)
    (h : s.feeder.Sound) : t.feeder.Sound := by
  cases x <;> simp only [storeSetting, Option.some.injEq, Option.map_eq_some_iff, reduceCtorEq] at stored
  case feederUnits => subst stored; exact (h.setUnits _).of_eq (setFeederUnits_feeder _ s)
  case guard => obtain ⟨g, -, rfl⟩ := stored; exact h
  all_goals subst stored; exact h.same rfl rfl rfl rfl

theorem feederSound_set (c : Byte) (v : Word) (h : s.feeder.Sound) : (set c v s).1.feeder.Sound := by
  unfold set; split
  · unfold setNamed; split
    next stored => exact feederSound_storeSetting stored h
    · exact h
  · exact h

/-- R172: every request keeps the arbiter sound. -/
theorem feederSound_runRequest (r : Request) : Keeps (fun s => s.feeder.Sound) fun s => (runRequest r s).1 := by
  intro s h
  cases r with
  | book n a => exact h.of_eq (book_feeder n a)
  | amend n a => exact h.of_eq (amend_feeder n a)
  | retire n => exact h.of_eq (retire_feeder n)
  | lookup sel op => exact h.of_eq (lookup_feeder sel op)
  | list st => simp only [runRequest, list]; split <;> exact h
  | assign b n => exact h.of_eq (assign_feeder b n)
  | rebase n => exact h.of_eq (rebase_feeder n)
  | defrostNow n => exact h.of_eq (defrostNow_feeder n)
  | defrostStop n => exact feederSound_defrostStop n h
  | bayStatus b => exact onBay_keeps (P := fun t => t.feeder.Sound) h fun _ => h
  | bayEnable b => exact onBay_keeps (P := fun t => t.feeder.Sound) h fun b => by rw [enable_frame]; exact h
  | bayDisable b => exact onBay_keeps (P := fun t => t.feeder.Sound) h fun b => (releases_disable b s).sound h
  | clearFault b => exact h.of_eq (commandClearFault_feeder b)
  | spot b k => exact h.of_eq (spot_feeder b k)
  | curveWrite c k n pts => exact h.of_eq (curveWrite_feeder c k n pts)
  | curveRead c => simp only [runRequest, curveRead]; split <;> exact h
  | curveClear c => exact h.of_eq (curveClear_feeder c)
  | set x v => exact feederSound_set x v h
  | get x => simp only [runRequest, get]; split <;> exact h
  | routeSet k m c => simp only [runRequest, routeSet]; split <;> exact h
  | routeRead k => simp only [runRequest, routeRead]; split <;> exact h
  | take => exact h
  | ack k p => simp only [runRequest, ack]; split <;> exact h
  | reset => exact h

end

end Sys2Proof.Machine

namespace Sys2Proof.Machine

/-! # Every step keeps the feeder arbiter (O54) -/

theorem feederSound_keptByRows : KeptByRows fun s => s.feeder.Sound where
  queue _ _ h := h
  link _ _ h := h
  timer _ _ h := h
  outside _ _ h := h
  converter _ _ h := h
  request := feederSound_runRequest
  beginReset _ _ := Feeder.sound_reset
  resetOver _ _ h := h
  openRound _ h := h.same rfl rfl rfl rfl
  bayRound b s := (releases_bayRound b s).sound
  pointWork := feederSound_pointWork
  intervalExpiry b s := (releases_roundPart (intervalExpiryAt_eq b s)).sound
  expiryInWaiting b s := (releases_roundPart (expiryInWaitingAt_eq b s)).sound
  endByMaximum b s := (releases_roundPart (endByMaximumAt_eq b s)).sound
  dripEnd b s := (releases_roundPart (dripEndAt_eq b s)).sound
  deliverReading ch x s := (releases_deliverReading ch x s).sound
  wakeEnd _ h := h
  presenceSeen s h := by rw [presenceSeen_frame]; exact h
  presenceWindowClose s h := h.of_eq (presenceWindowClose_feeder s)
  attemptJudged s h := h.of_eq (attemptJudged_feeder s)
  spacingEnd _ h := h
  bitSlotSample high s h := by rw [bitSlotSample_frame]; exact h
  senseAcceptance b level s := (releases_senseAcceptance b level s).sound
  doorAcceptance b level s h := h.of_eq (doorAcceptance_feeder b level s)
  runAcceptance b level s h := h.of_eq (runAcceptance_feeder b level s)
  overcurrentAcceptance b level s := (releases_overcurrentAcceptance b level s).sound
  powerGoodWaitEnd b s h := h.of_eq (powerGoodWaitEnd_feeder b s)
  bayTick samples b s := (releases_bayTick samples b s).sound
  microsecond s h := h.of_eq (microsecond_feeder s)

/-- Settles O54: the work of every row keeps the arbiter sound. -/
theorem stepKeepsTheFeederArbiter : Obligations.StepKeepsTheFeederArbiter := fun _ _ hr hb ht =>
  feederSound_iff.1 (feederSound_keptByRows.step (feederSound_iff.2 ⟨hr, hb⟩) ht)

end Sys2Proof.Machine

namespace Sys2Proof.Machine

/-! # The watched values and the record's copy, bay by bay (O60)

`DoorInv` asks of each bay the unwatched values while it is UNCONNECTED, and of its record a true copy. `SameDoors` says
that work leaves alone what is compared: connections, references, copies and figures. What is left are the changes of the
figures with their mirror, a connect, a disconnect, and the records that come to a bay or leave it. -/

/-- R143, R152: what `DoorInv` asks of one bay. -/
def DoorAt (b : Bay) (s : State) : Prop :=
  (s.bays[b].connected = false → s.doors[b] = .unwatched) ∧ ∀ r ∈ s.recordAt b, r.door = s.doors[b].figures

theorem doorInv_iff {s : State} : DoorInv s ↔ ∀ b, DoorAt b s :=
  ⟨fun ⟨unwatched, copy⟩ b => ⟨unwatched b, copy b⟩, fun h => ⟨fun b => (h b).1, fun b => (h b).2⟩⟩

/-- Two states agree in connections, references, door copies and door figures, and no unwatched value is lost. -/
structure SameDoors (s t : State) : Prop where
  connected : ∀ b : Bay, t.bays[b].connected = s.bays[b].connected
  ref : ∀ b : Bay, t.bays[b].ref = s.bays[b].ref
  copies : ∀ i : SlotIx, t.table[i].map (·.door) = s.table[i].map (·.door)
  figures : ∀ b : Bay, t.doors[b].figures = s.doors[b].figures
  unwatched : ∀ b : Bay, s.bays[b].connected = false → s.doors[b] = .unwatched → t.doors[b] = .unwatched

section
variable {s t u : State} {b : Bay} {i : SlotIx} {r q : Record}

/-- R152: only the copy in the bay's record matters. -/
theorem DoorAt.congr (h : DoorAt b s) (connected : t.bays[b].connected = s.bays[b].connected)
    (copy : (t.recordAt b).map (·.door) = (s.recordAt b).map (·.door))
    (figures : t.doors[b].figures = s.doors[b].figures)
    (unwatched : s.bays[b].connected = false → s.doors[b] = .unwatched → t.doors[b] = .unwatched) : DoorAt b t := by
  refine ⟨fun away => ?_, fun r hr => ?_⟩
  · have before := connected.symm.trans away
    exact unwatched before (h.1 before)
  · have mirrored : some r.door = (s.recordAt b).map (·.door) := (congrArg (Option.map _) hr).symm.trans copy
    obtain ⟨q, hq, same⟩ := Option.map_eq_some_iff.1 mirrored.symm
    rw [← same, figures]
    exact h.2 q hq

/-- Work at one bay: it suffices to look there. -/
theorem DoorInv.atBay (h : DoorInv s) (bays : ∀ c : Bay, c ≠ b → t.bays[c].core = s.bays[c].core)
    (records : ∀ c : Bay, c ≠ b → ∀ j, s.bays[c].ref = some j → t.table[j] = s.table[j])
    (doors : ∀ c : Bay, c ≠ b → t.doors[c] = s.doors[c]) (here : DoorAt b t) : DoorInv t := by
  refine doorInv_iff.2 fun c => ?_
  by_cases hc : c = b
  · rw [hc]; exact here
  · have record := recordAt_congr (congrArg (·.2.2) (bays c hc)) (records c hc)
    exact (doorInv_iff.1 h c).congr (congrArg (·.2.1) (bays c hc)) (by rw [record]) (by rw [doors c hc])
      fun _ unwatched => (doors c hc).trans unwatched

namespace SameDoors

theorem refl (s : State) : SameDoors s s := ⟨fun _ => rfl, fun _ => rfl, fun _ => rfl, fun _ => rfl, fun _ _ => id⟩

theorem trans (h : SameDoors s t) (g : SameDoors t u) : SameDoors s u where
  connected b := (g.connected b).trans (h.connected b)
  ref b := (g.ref b).trans (h.ref b)
  copies i := (g.copies i).trans (h.copies i)
  figures b := (g.figures b).trans (h.figures b)
  unwatched b away before := g.unwatched b ((h.connected b).trans away) (h.unwatched b away before)

/-- Work that touches no table and no door, and nothing the registry knows of. -/
theorem of_registry (g : SameRegistry s t) (table : t.table = s.table) (doors : t.doors = s.doors) : SameDoors s t :=
  ⟨g.connected, g.ref, fun i => by rw [table], fun b => by rw [doors], fun b _ before => by rw [doors]; exact before⟩

theorem of_eq (table : t.table = s.table) (bays : t.bays = s.bays) (doors : t.doors = s.doors) : SameDoors s t :=
  ⟨fun b => by rw [bays], fun b => by rw [bays], fun i => by rw [table], fun b => by rw [doors],
    fun b _ before => by rw [doors]; exact before⟩

/-- One bay alone changes, with its connection and its reference kept. -/
theorem of_bay {x : BayCtl} (bay : BayBecomes b x s t) (connected : x.connected = s.bays[b].connected)
    (ref : x.ref = s.bays[b].ref) (table : t.table = s.table) (doors : t.doors = s.doors) : SameDoors s t where
  connected c := by
    by_cases hc : c = b
    · rw [hc, ← connected]; exact congrArg (·.2.1) bay.at
    · exact congrArg (·.2.1) (bay.other hc)
  ref := bay.ref_kept ref
  copies i := by rw [table]
  figures c := by rw [doors]
  unwatched c _ before := by rw [doors]; exact before

/-- Work that writes one record and keeps its copy. -/
theorem of_record (bays : t.bays = s.bays) (doors : t.doors = s.doors) (hr : s.table[i] = some r)
    (table : t.table = s.table.set i.val (some q)) (door : q.door = r.door) : SameDoors s t where
  connected b := by rw [bays]
  ref b := by rw [bays]
  copies j := by
    rw [table, vector_set_get]; split
    next e => rw [e, hr, Option.map_some, Option.map_some, door]
    · rfl
  figures b := by rw [doors]
  unwatched b _ before := by rw [doors]; exact before

theorem putSlot (hr : s.table[i] = some r) (door : q.door = r.door) : SameDoors s (s.putSlot i (some q)) :=
  .of_record rfl rfl hr rfl door

theorem modParked (b : Bay) {f : Record → Record} (s : State) (door : ∀ r, (f r).door = r.door := by exact fun _ => rfl) :
    SameDoors s (s.modParked b f) := by
  refine ⟨fun c => by rw [State.modParked_bays], fun c => by rw [State.modParked_bays], fun i => ?_,
    fun c => by rw [State.modParked_doors], fun c _ before => by rw [State.modParked_doors]; exact before⟩
  cases hi : s.bays[b].ref with
  | none => rw [State.modParked_of_no_ref hi]
  | some j =>
    rw [State.modParked_of_ref hi, State.modSlot_table, vector_set_get]; split
    next e => rw [e, Option.map_map]; exact congrArg (s.table[j].map ·) (funext door)
    · rfl

theorem modBay (b : Bay) {f : BayCtl → BayCtl} (s : State)
    (connected : (f s.bays[b]).connected = s.bays[b].connected := by rfl)
    (ref : (f s.bays[b]).ref = s.bays[b].ref := by rfl) : SameDoors s (s.modBay b f) :=
  .of_bay (x := f s.bays[b]) (bayBecomes_set rfl rfl) connected ref rfl rfl

/-- A watched bay changes what is not mirrored. -/
theorem modDoor {f : DoorWatch → DoorWatch} (watched : s.bays[b].connected = true)
    (figures : (f s.doors[b]).figures = s.doors[b].figures := by rfl) : SameDoors s (s.modDoor b f) := by
  refine ⟨fun _ => rfl, fun _ => rfl, fun _ => rfl, fun c => ?_, fun c away before => ?_⟩
  · rw [State.modDoor_doors, vector_set_get]; split
    next e => rw [e]; exact figures
    · rfl
  · have hc : c ≠ b := fun e => by rw [e, watched] at away; cases away
    rw [State.modDoor_doors, vector_set_other _ _ hc]; exact before

theorem forBays {work : Bay → State → State} (h : ∀ b s, SameDoors s (work b s)) (bays : List Bay) (s : State) :
    SameDoors s (forBays work bays s) := by
  induction bays generalizing s with
  | nil => exact .refl s
  | cons b rest ih => exact (h b s).trans (ih (work b s))

end SameDoors

/-- What is the same in what is compared leaves the copies true. -/
theorem DoorInv.same (h : DoorInv s) (g : SameDoors s t) : DoorInv t := by
  refine doorInv_iff.2 fun b => (doorInv_iff.1 h b).congr (g.connected b) ?_ (g.figures b) (g.unwatched b)
  unfold State.recordAt
  rw [g.ref b]
  cases s.bays[b].ref with
  | none => rfl
  | some i => exact g.copies i

/-- A record written in a slot to which no bay refers, or no record. -/
theorem door_putSlot {r : Option Record} (h : DoorInv s) (free : ∀ b : Bay, s.bays[b].ref ≠ some i) :
    DoorInv (s.putSlot i r) := by
  refine doorInv_iff.2 fun b => (doorInv_iff.1 h b).congr rfl ?_ rfl fun _ => id
  exact congrArg _ (recordAt_congr rfl fun j hj => vector_set_other _ _ fun e => free b (e ▸ hj))

end

/-! ## The defrost cycle and the feeder arbiter write no copy -/

section
variable (b : Bay) (s : State)

theorem sameDoors_raiseAt (k : BayKind) (n : Option TrailerNo) (v : Option NoticeValue) :
    SameDoors s (raiseAt k b n v s) := .of_eq rfl rfl rfl

theorem sameDoors_setHeat (on : Bool) : SameDoors s (s.setHeat b on) := .of_eq rfl rfl rfl

theorem sameDoors_modFeeder (f : Feeder → Feeder) : SameDoors s (s.modFeeder f) := .of_eq rfl rfl rfl

theorem sameDoors_heatingToWaiting : SameDoors s (heatingToWaiting b s) := by
  unfold heatingToWaiting; split
  · exact .refl s
  · split
    · exact (SameDoors.modParked b s).trans (sameDoors_setHeat b _ false)
    all_goals exact .refl s

theorem sameDoors_defrostLeavesServing : SameDoors s (defrostLeavesServing b s) :=
  (sameDoors_heatingToWaiting b s).trans (sameDoors_modFeeder _ _)

theorem sameDoors_endHeating (r : Record) : SameDoors s (endHeating b r s) :=
  (((sameDoors_modFeeder s _).trans (sameDoors_setHeat b _ false)).trans (.modParked b _)).trans
    (sameDoors_raiseAt b _ ..)

theorem sameDoors_defrostRound : SameDoors s (defrostRound b s) := by
  unfold defrostRound; split
  · exact .refl s
  · split
    · split
      · split <;> exact .modParked b s
      · exact .refl s
    · split
      · split
        · exact (SameDoors.modParked b s).trans (sameDoors_raiseAt b _ ..)
        · exact .modParked b s
      · exact .refl s
    · split
      · exact (sameDoors_raiseAt b s ..).trans (sameDoors_endHeating b _ _)
      · exact .modParked b s
    · split <;> exact .modParked b s

theorem sameDoors_grantWalk (l : List Bay) : SameDoors s (grantWalk l s) := by
  induction l generalizing s with
  | nil => exact .refl s
  | cons b rest ih =>
    unfold grantWalk; split
    · split
      · exact ih s
      · split
        · exact (((sameDoors_modFeeder s _).trans (.modParked b _)).trans (sameDoors_setHeat b _ true)).trans (ih _)
        · exact .refl s
    · exact ih s

theorem sameDoors_checkPoint : SameDoors s (checkPoint s) := by
  cases verdict : s.feeder.judge s.outside.fsense with
  | sag =>
    have shed : SameDoors s (shedNewest s) := by
      unfold shedNewest; split
      · exact (sameDoors_modFeeder s _).trans (sameDoors_heatingToWaiting _ _)
      · exact sameDoors_modFeeder s _
    rw [checkPoint_sag verdict]
    exact shed.trans (.of_eq rfl rfl rfl)
  | clear => rw [checkPoint_clear verdict]; exact .of_eq rfl rfl rfl

theorem sameDoors_pointWork (p : Point) : SameDoors s (pointWork p s) := by
  cases p with
  | check => exact sameDoors_checkPoint s
  | grant => exact sameDoors_grantWalk s _
  | sweep => exact .of_eq rfl rfl rfl

/-! ## A reading writes fuel and probe figures alone (R95, R104, R110, R111) -/

theorem sameDoors_endFuelJudgements : SameDoors s (endFuelJudgements b s) :=
  .of_eq (by rw [endFuelJudgements_frame]) (by rw [endFuelJudgements_frame]) (by rw [endFuelJudgements_frame])

theorem sameDoors_probeResult (n : Nat) : SameDoors s (probeResult b n s) := by
  cases hr : s.recordAt b with
  | none => rw [probeResult, hr]; exact .refl s
  | some r =>
    obtain ⟨i, hi, hri⟩ := State.recordAt_eq_some.1 hr
    have written (p : ProbeFigures) : SameDoors s (coilWritten b i { r with probe := p } s) :=
      (SameDoors.putSlot (q := { r with probe := p }) hri rfl).trans (.of_eq
        (by simp only [coilWritten, State.modCond_table, ceaseIf_table])
        (by simp only [coilWritten, State.modCond_bays, ceaseIf_bays])
        (by simp only [coilWritten, State.modCond_doors, ceaseIf_doors]))
    rw [probeResult_eq hi hri]
    dsimp only
    split
    · split
      · exact (written _).trans (sameDoors_endHeating b _ _)
      · exact written _
    · exact written _

theorem sameDoors_deliverReading (ch : Channel) (x : Reading) : SameDoors s (deliverReading ch x s) := by
  obtain ⟨b, kind⟩ := ch
  cases hr : s.recordAt b with
  | none =>
    have nothing : deliverReading { bay := b, kind := kind } x s = s := by
      unfold deliverReading
      split <;> simp only [fuelResult, fuelError, probeResult, probeError, hr]
    rw [nothing]; exact .refl s
  | some r =>
    obtain ⟨i, hi, hri⟩ := State.recordAt_eq_some.1 hr
    have bays : (deliverReading { bay := b, kind := kind } x s).bays = s.bays := by rw [deliverReading_frame]
    have doors : (deliverReading { bay := b, kind := kind } x s).doors = s.doors := by rw [deliverReading_frame]
    cases kind with
    | fuel =>
      cases x with
      | resistance n => obtain ⟨f, table⟩ := fuelResult_table hi hri n; exact .of_record bays doors hri table rfl
      | error e => obtain ⟨f, table⟩ := fuelError_table hi hri e; exact .of_record bays doors hri table rfl
    | probe =>
      cases x with
      | resistance n => exact sameDoors_probeResult b s n
      | error e => obtain ⟨p, table⟩ := probeError_table hi hri e; exact .of_record bays doors hri table rfl

end

end Sys2Proof.Machine

namespace Sys2Proof.Machine

/-! # The bays' operations keep the door copies true (O60) -/

section
variable {b : Bay} {s : State}

/-! ## Bay states: neither connection nor reference changes (R13, R41, R45, R48, R49, R51) -/

theorem sameDoors_enterServing (b : Bay) (s : State) : SameDoors s (enterServing b s) :=
  .of_bay (enterServing_bay b s) rfl rfl (enterServing_table b s) (enterServing_doors b s)

theorem sameDoors_hold (b : Bay) (x : Held) (s : State) : SameDoors s (hold b x s) :=
  .of_bay (hold_bay b x s) rfl rfl (by rw [hold_frame]) (by rw [hold_frame])

theorem sameDoors_identify (b : Bay) (s : State) : SameDoors s (identify b s) :=
  (SameDoors.modBay b (f := BayCtl.become .identifying) s).trans (.of_eq rfl rfl rfl)

theorem sameDoors_enable (b : Bay) (s : State) : SameDoors s (enable b s) := by
  unfold enable; split
  · split
    · exact sameDoors_enterServing b s
    · split
      · exact sameDoors_identify b s
      · exact .modBay b s
  all_goals exact .refl s

theorem sameDoors_ceaseAt (k : BayKind) (b : Bay) (s : State) : SameDoors s (ceaseAt k b s) := .of_eq rfl rfl rfl

theorem sameDoors_clearFault (b : Bay) (s : State) : SameDoors s (clearFault b s) :=
  (sameDoors_ceaseAt .overcurrent b s).trans (sameDoors_enterServing b _)

/-- R46, R49: a bay leaves SERVING with its connection and its reference. -/
theorem sameDoors_leavesServing {t : State} (h : SameDoors s t) : SameDoors s (defrostLeavesServing b t) :=
  h.trans (sameDoors_defrostLeavesServing b t)

theorem sameDoors_trip (b : Bay) (s : State) : SameDoors s (trip b s) :=
  sameDoors_leavesServing ((SameDoors.modBay b (f := BayCtl.become .fault) s).trans (.of_eq rfl rfl rfl))

theorem sameDoors_disable (b : Bay) (s : State) : SameDoors s (disable b s) := by
  have disabled (t : State) : SameDoors t (t.modBay b (BayCtl.become .disabled)) := .modBay b t
  unfold disable; split
  · exact .refl s
  · exact disabled s
  · exact (disabled s).trans (.of_eq rfl rfl rfl)
  · exact (SameDoors.of_eq (ceaseHeld_table b s) (ceaseHeld_bays b s) (ceaseHeld_doors b s)).trans (disabled _)
  · exact sameDoors_leavesServing ((disabled s).trans (.of_eq rfl rfl rfl))
  · exact (sameDoors_ceaseAt .overcurrent b s).trans (disabled _)

theorem sameDoors_powerGoodWaitEnd (b : Bay) (s : State) : SameDoors s (powerGoodWaitEnd b s) := by
  unfold powerGoodWaitEnd; split
  · exact .modBay b s
  · exact .refl s

/-! ## Parking, connecting and disconnecting (R8, R10, R38, R52, R152) -/

/-- R8, R152: a record parks with the figures that the bay has. -/
theorem door_park (refs : RefsParked s) (h : DoorInv s) {i : SlotIx} {r : Record} (hr : Parkable s i r) :
    DoorInv (park i r b s) := by
  have bay := park_bay i r b s
  have record : (park i r b s).recordAt b = some (r.park b s.timer.number s.doors[b].figures) := by
    rw [State.recordAt_of_ref bay.ref_at, park_table, vector_set_same]
  have doors : (park i r b s).doors = s.doors := by rw [park_frame]
  refine h.atBay (fun _ => bay.other) (fun c _ j hj => ?_) (fun _ _ => by rw [doors]) ⟨fun away => ?_, fun q hq => ?_⟩
  · rw [park_table]
    exact vector_set_other _ _ fun e => hr.not_referred refs c (e ▸ hj)
  · rw [doors]
    exact h.1 b ((congrArg (·.2.1) bay.at).symm.trans away)
  · rw [record] at hq
    cases hq
    rw [doors]; rfl

/-- R7: a bay without a record refers to none. -/
theorem RefsParked.no_ref (refs : RefsParked s) (h : s.recordAt b = none) : s.bays[b].ref = none := by
  cases hi : s.bays[b].ref with
  | none => rfl
  | some i =>
    obtain ⟨r, hr, -⟩ := (refs b i).1 hi
    rw [State.recordAt_of_ref hi, hr] at h; cases h

/-- R10: a departure writes no record of another bay. -/
theorem depart_table_other (refs : RefsParked s) {c : Bay} (hc : c ≠ b) {j : SlotIx} (hj : s.bays[c].ref = some j) :
    (depart b s).table[j] = s.table[j] := by
  cases hr : s.recordAt b with
  | none => rw [depart_of_none hr]
  | some r =>
    obtain ⟨i, hi, hri⟩ := State.recordAt_eq_some.1 hr
    rw [depart_of_some hi hri]
    exact vector_set_other _ _ fun e => hc (refs.unique hi (e ▸ hj))

/-- R52, R143: a disconnected bay has its unwatched values and no record. -/
theorem door_disconnect (refs : RefsParked s) (h : DoorInv s) : DoorInv (disconnect b s) := by
  by_cases hc : s.bays[b].connected = true
  · have noRef : (disconnect b s).bays[b].ref = none := by
      rw [disconnect_bays hc, vector_set_same]
      cases hr : s.recordAt b with
      | none => exact refs.no_ref hr
      | some r => rfl
    refine h.atBay (b := b) (fun c hne => ?_) (fun c hne j hj => ?_) (fun c hne => ?_) ⟨fun _ => ?_, fun r hr => ?_⟩
    · rw [disconnect_bays hc, vector_set_other _ _ hne]
    · rw [(disconnect_departed hc).1]; exact depart_table_other refs hne hj
    · rw [disconnect_doors hc, vector_set_other _ _ hne]
    · rw [disconnect_doors hc, vector_set_same]
    · rw [State.recordAt_of_no_ref noRef] at hr; cases hr
  · rw [disconnect, if_neg hc]; exact h

/-- R7, R36: an UNCONNECTED bay refers to no record. -/
theorem RegistryInv.no_ref_of_unconnected (h : RegistryInv s) (hc : s.bays[b].connected ≠ true) :
    s.bays[b].ref = none := by
  have coherent := h.coherent b
  rw [BayCtl.coherent] at coherent
  cases hb : s.bays[b].state with
  | disabled =>
    rw [hb] at coherent
    exact Option.not_isSome_iff_eq_none.1 fun some => hc (coherent some)
  | empty => rw [hb] at coherent; exact coherent.1
  | identifying => rw [hb] at coherent; exact coherent.1
  | held x => rw [hb] at coherent; exact coherent.1
  | serving => rw [hb] at coherent; exact absurd coherent.2 hc
  | fault => rw [hb] at coherent; exact absurd coherent.2 hc

/-- R38, R143: a bay becomes watched without a record, from its unwatched values. -/
theorem door_connect (hs : RegistryInv s) (h : DoorInv s) : DoorInv (connect b s) := by
  by_cases hc : s.bays[b].connected = true
  · rw [connect, if_pos hc]; exact h
  · have seen : DoorInv ((s.modBay b fun x => { x with connected := true, differing := 0 }).modDoor b
        fun _ => .unwatched) := by
      refine h.atBay (fun c hne => congrArg BayCtl.core (vector_set_other _ _ hne)) (fun _ _ _ _ => rfl)
        (fun c hne => vector_set_other _ _ hne) ⟨fun _ => vector_set_same _ _ _, fun r hr => ?_⟩
      rw [State.recordAt_of_no_ref (by
        rw [State.modDoor_bays, State.modBay_bays, vector_set_same]; exact hs.no_ref_of_unconnected hc)] at hr
      cases hr
    rw [connect, if_neg hc]
    dsimp only
    split
    · exact seen.same (sameDoors_identify b _)
    all_goals exact seen

end

/-! # The door watch keeps the copies true (O60) -/

section
variable {b : Bay} {s : State}

/-- R143, R152: a watched bay, where every bay's copy is true. -/
structure DoorWatched (b : Bay) (s : State) : Prop where
  refs : RefsParked s
  copies : DoorInv s
  watched : s.bays[b].connected = true

theorem DoorWatched.same {t : State} (h : DoorWatched b s) (registry : SameRegistry s t) (g : SameDoors s t) :
    DoorWatched b t :=
  ⟨h.refs.of_same registry, h.copies.same g, (g.connected b).trans h.watched⟩

/-- A change of what is not mirrored. -/
theorem DoorWatched.modDoor (h : DoorWatched b s) {f : DoorWatch → DoorWatch}
    (figures : (f s.doors[b]).figures = s.doors[b].figures := by rfl) : DoorWatched b (s.modDoor b f) :=
  h.same (.of_eq rfl rfl rfl) (.modDoor h.watched figures)

/-- R152: a change of the figures is mirrored into the record that the bay refers to, and into no other. -/
theorem DoorWatched.modFigures (h : DoorWatched b s) (f : DoorFigures → DoorFigures) :
    DoorWatched b (modFigures b f s) := by
  have registry := (quiet_modFigures b f s).toSameRegistry
  have connected := registry.connected b
  have doors : (Machine.modFigures b f s).doors =
      s.doors.set b.val { s.doors[b] with figures := f s.doors[b].figures } := State.modParked_doors ..
  refine ⟨h.refs.of_same registry, ?_, connected.trans h.watched⟩
  refine h.copies.atBay (b := b) (fun c _ => registry.bays c) (fun c hc j hj => ?_) (fun c hc => ?_)
    ⟨fun away => ?_, fun r hr => ?_⟩
  · unfold Machine.modFigures mirror
    cases hi : s.bays[b].ref with
    | none => rw [State.modParked_of_no_ref (by exact hi)]; rfl
    | some i =>
      rw [State.modParked_of_ref (by exact hi)]
      exact vector_set_other _ _ fun e => hc (h.refs.unique hi (e ▸ hj))
  · rw [doors, vector_set_other _ _ hc]
  · rw [connected, h.watched] at away; cases away
  · obtain ⟨i, hi, hri⟩ := State.recordAt_eq_some.1 hr
    rw [registry.ref] at hi
    unfold Machine.modFigures mirror at hri
    rw [State.modParked_of_ref (by exact hi), State.modSlot_table, vector_set_same, Option.map_eq_some_iff] at hri
    obtain ⟨q, -, rfl⟩ := hri
    rw [doors, State.modDoor_doors]

theorem DoorWatched.guardEvent (h : DoorWatched b s) (asked : Bool) : DoorWatched b (guardEvent asked b s) := by
  cases asked
  · exact h
  · exact h.same (.of_eq rfl rfl rfl) (.of_eq rfl rfl rfl)

theorem DoorWatched.endDoorLong (h : DoorWatched b s) : DoorWatched b (endDoorLong b s) :=
  (h.same (sameRegistry_ceaseIf _ .doorLong b s)
    (.of_eq (ceaseIf_table ..) (ceaseIf_bays ..) (ceaseIf_doors ..))).modDoor

/-- Table 47, the two rows to OPEN. -/
theorem DoorWatched.acceptOpen (h : DoorWatched b s) : DoorWatched b (acceptOpen b s) := by
  unfold Machine.acceptOpen; split
  · exact ((h.modDoor (f := fun d => { d with settle := 0 })).modFigures _).guardEvent _
  · exact h.modFigures _
  · exact h

/-- Table 47, the two rows to SHUT. -/
theorem DoorWatched.acceptShut (h : DoorWatched b s) : DoorWatched b (acceptShut b s) := by
  have shut := (h.modDoor (f := fun d => { d with settle := s.settleRounds })).modFigures
    fun f => { f with state := .shut, lastChange := some s.timer.number }
  unfold Machine.acceptShut
  dsimp only
  split
  · exact shut.endDoorLong.guardEvent _
  · exact shut
  · exact h

theorem DoorWatched.acceptDoor (h : DoorWatched b s) (closed : Bool) : DoorWatched b (acceptDoor b closed s) := by
  have fresh := h.modDoor (f := fun d => { d with doorLine := .none })
  cases closed
  · exact fresh.acceptOpen
  · exact fresh.acceptShut

/-- R145: a trip leaves the door watch as it stands. -/
theorem DoorWatched.acceptOvc (h : DoorWatched b s) (closed : Bool) : DoorInv (acceptOvc b closed s) := by
  have accepted := h.modDoor (f := fun d => { d with ovc := .ofLevel closed, ovcLine := .none })
  unfold Machine.acceptOvc
  dsimp only
  split
  · exact accepted.copies.same (sameDoors_trip b _)
  · exact accepted.copies

theorem DoorWatched.modLines (h : DoorWatched b s) (f : LineSample → LineSample) : DoorWatched b (s.modLines b f) :=
  h.same (.of_eq rfl rfl rfl) (.of_eq rfl rfl rfl)

/-- R144: the samples of the three lines. -/
theorem DoorWatched.samples (h : DoorWatched b s) (x : LineSample) :
    DoorInv (ovcSample b x.ovc (runSample b x.run (doorSample b x.door s))) := by
  have door : DoorWatched b (doorSample b x.door s) := by
    simp only [doorSample]; split
    · exact h.acceptDoor _
    · exact h.modDoor
  have run : DoorWatched b (runSample b x.run (doorSample b x.door s)) := by
    simp only [runSample]; split <;> exact door.modDoor
  simp only [ovcSample]; split
  · exact run.acceptOvc _
  · exact run.modDoor.copies

/-- R148, R149: the round start at a watched bay. -/
theorem DoorWatched.round (h : DoorWatched b s) : DoorInv (judgeDoorLong b (doorCounts b s)) := by
  have counted : DoorWatched b (doorCounts b s) := by
    unfold doorCounts; split
    · exact h.modFigures _
    · exact h.modDoor
    · exact h
  generalize doorCounts b s = t at counted
  unfold judgeDoorLong
  dsimp only
  split
  · exact (counted.modDoor (f := fun d => { d with doorLong := _ })).copies.same (.of_eq rfl rfl rfl)
  · exact (counted.modDoor (f := fun d => { d with doorLong := _ })).copies.same (.of_eq rfl rfl rfl)
  · exact counted.copies
  · exact counted.copies

end

end Sys2Proof.Machine

namespace Sys2Proof.Machine

/-! # The requests keep the door copies true (O60) -/

/-- The registry is consistent, unwatched bays stand at their unwatched values, and the door copies are true. -/
def DoorRegistry (s : State) : Prop := RegistryInv s ∧ DoorInv s

section
variable {s : State}

theorem DoorRegistry.refs (h : DoorRegistry s) : RefsParked s := h.1.2.1

theorem DoorRegistry.same {t : State} (h : DoorRegistry s) (registry : SameRegistry s t) (g : SameDoors s t) :
    DoorRegistry t := ⟨h.1.of_same registry, h.2.same g⟩

/-- Quiet work that touches no table and no door. -/
theorem DoorRegistry.quiet {t : State} (h : DoorRegistry s) (g : Quiet s t) (table : t.table = s.table)
    (doors : t.doors = s.doors) : DoorRegistry t :=
  h.same g.toSameRegistry (.of_registry g.toSameRegistry table doors)

theorem DoorRegistry.doorWatched {b : Bay} (h : DoorRegistry s) (watched : s.bays[b].connected = true) :
    DoorWatched b s := ⟨h.refs, h.2, watched⟩

/-- R12: the outcomes of a match keep the copies where they keep the registry. -/
theorem Settles.doorRegistry {b : Bay} (h : Settles RegistryInv b s) (refs : RefsParked s) (doors : DoorInv s) :
    Settles DoorRegistry b s :=
  ⟨fun i r hr => ⟨h.park i r hr, door_park refs doors hr⟩,
    fun x hx => ⟨h.hold x hx, doors.same (sameDoors_hold b x s)⟩⟩

theorem DoorRegistry.settles_of_held {b : Bay} {x : Held} (hs : DoorRegistry s) (hb : s.bays[b].state = .held x) :
    Settles DoorRegistry b s :=
  (hs.1.vacant_of_held hb).settles.doorRegistry hs.refs hs.2

/-! ## Records (R11, R16 to R22, R122, R123) -/

theorem door_book (n : TrailerNo) (a : SettingsArg) (hs : DoorRegistry s) : DoorInv (book n a s).1 := by
  unfold book; split
  · exact hs.2
  · split
    · exact hs.2
    · split
      · exact hs.2
      next i hi =>
        refine door_putSlot hs.2 fun b hb => ?_
        obtain ⟨r, hr, -⟩ := (hs.refs b i).1 hb
        rw [freeSlot_some hi] at hr; cases hr

theorem Record.amend_door (x : Settings) (r : Record) : (r.amend x).door = r.door := by
  rw [Record.amend_eq]

theorem door_amend (n : TrailerNo) (a : SettingsArg) (h : DoorInv s) : DoorInv (amend n a s).1 := by
  unfold amend; split
  · exact h
  · refine onNamed_keeps h fun i r _ hr => ?_
    have stored := h.same (.putSlot hr (Record.amend_door (applySettings a r.settings) r))
    dsimp only
    split
    · split
      · exact stored
      · exact stored.same (sameDoors_endFuelJudgements _ _)
    · exact stored

theorem door_retire (n : TrailerNo) (hs : DoorRegistry s) : DoorInv (retire n s).1 := by
  refine onNamed_keeps hs.2 fun i r _ hr => ?_
  have freed (away : r.place.bay? = none) : DoorInv (s.putSlot i none) :=
    door_putSlot hs.2 fun b hb => by rw [hs.refs.parked hb hr] at away; cases away
  cases hp : r.place with
  | parked c since => exact hs.2
  | booked => exact freed (by rw [hp]; rfl)
  | departed c since left => exact freed (by rw [hp]; rfl)

theorem door_assign (c : Byte) (n : TrailerNo) (hs : DoorRegistry s) : DoorInv (assign c n s).1 := by
  refine onBay_keeps hs.2 fun b => ?_
  have park {i : SlotIx} {r : Record} (hr : Parkable s i r) : DoorInv (park i r b s) := door_park hs.refs hs.2 hr
  split
  · exact hs.2
  next hn =>
    unfold assignAt; split
    · split
      next i r hi =>
        split
        · exact hs.2
        next away => exact park (parkable_named hi (by simpa using away))
      next unknown =>
        split
        next i hi => exact park (parkable_create hn (named_eq_none.1 unknown) hi)
        · exact hs.2
    · exact hs.2

theorem door_rebase (n : TrailerNo) (h : DoorInv s) : DoorInv (rebase n s).1 := by
  refine onNamed_keeps h fun i r _ hr => ?_
  dsimp only
  split
  next f v _ _ =>
    have based := h.same (.putSlot (q := { r with fuel := { r.fuel with baseline := some f } }) hr rfl)
    split
    · exact based.same (.of_eq (by simp) (by simp) (by simp))
    · exact based
  · exact h

theorem door_defrostStop (n : TrailerNo) (h : DoorInv s) : DoorInv (defrostStop n s).1 := by
  refine onNamed_keeps h fun i r _ hr => ?_
  split
  · exact h
  · exact h.same (.putSlot hr rfl)
  · split
    · exact h.same (sameDoors_endHeating _ s r)
    · exact h
  · exact h

theorem door_defrostNow (n : TrailerNo) (h : DoorInv s) : DoorInv (defrostNow n s).1 := by
  refine onNamed_keeps h fun i r _ hr => ?_
  split
  · split
    · exact h.same (.putSlot hr rfl)
    · exact h.same (.putSlot hr rfl)
    all_goals exact h
  · exact h

/-! ## Bays, curves and settings (R48, R79, R88 to R90, R129, R151) -/

theorem door_commandClearFault (c : Byte) (h : DoorInv s) : DoorInv (commandClearFault c s).1 := by
  refine onBay_keeps h fun b => ?_
  split
  · split
    · exact h.same (sameDoors_clearFault b s)
    · exact h
  · exact h

theorem door_spot (c k : Byte) (h : DoorInv s) : DoorInv (spot c k s).1 := by
  refine onBay_keeps h fun b => ?_
  split
  · exact h
  · dsimp only
    split
    · exact h
    · split
      · exact h
      · split <;> exact h

theorem Record.curveChanged_door (c : Fin 8) (r : Record) : (r.curveChanged c).door = r.door := by
  simp only [Record.curveChanged]
  split <;> split <;> rfl

/-- R89: the records bound to a changed curve keep their copies. -/
theorem sameDoors_storeCurve (c : Fin 8) (v : Option Curve) (s : State) : SameDoors s (storeCurve c v s) := by
  refine SameDoors.trans (t := { s with
    curves := s.curves.set c.val v, table := s.table.map (Option.map (Record.curveChanged c)) })
    ⟨fun _ => rfl, fun _ => rfl, fun i => ?_, fun _ => rfl, fun _ _ => id⟩ (.forBays sameDoors_endFuelJudgements _ _)
  have changed : (s.table.map (Option.map (Record.curveChanged c)))[i] = s.table[i].map (Record.curveChanged c) :=
    Vector.getElem_map ..
  rw [changed, Option.map_map]
  exact congrArg (s.table[i].map ·) (funext fun r => r.curveChanged_door c)

theorem door_curveWrite (c k n : Byte) (pts : List (Word × Half)) (h : DoorInv s) :
    DoorInv (curveWrite c k n pts s).1 := by
  unfold curveWrite; split
  · exact h
  · split
    · dsimp only
      split
      · exact h.same (sameDoors_storeCurve _ _ s)
      · exact h
    · exact h

theorem door_curveClear (c : Byte) (h : DoorInv s) : DoorInv (curveClear c s).1 := by
  unfold curveClear; split
  · exact h
  · split
    · exact h
    · exact h.same (sameDoors_storeCurve _ _ s)

/-- R151: a lowered settle count is not mirrored, and the unwatched one is 0. -/
theorem sameDoors_setSettle (v : Nat) (s : State) : SameDoors s (setSettle v s) := by
  have lowered (b : Bay) : (setSettle v s).doors[b] = { s.doors[b] with settle := min s.doors[b].settle v } :=
    Vector.getElem_map ..
  refine ⟨fun _ => rfl, fun _ => rfl, fun _ => rfl, fun b => by rw [lowered], fun b _ unwatched => ?_⟩
  rw [lowered, unwatched]
  exact congrArg (fun n => { DoorWatch.unwatched with settle := n }) (Nat.zero_min v)

theorem sameDoors_storeSetting {x : Setting} {v : Nat} {t : State} (stored : storeSetting x v s = some t) :
    SameDoors s t := by
  cases x <;> simp only [storeSetting, Option.some.injEq, Option.map_eq_some_iff, reduceCtorEq] at stored
  case settleRounds => subst stored; exact sameDoors_setSettle _ s
  case feederUnits => subst stored; exact (sameDoors_modFeeder s _).trans (.forBays sameDoors_heatingToWaiting _ _)
  case guard => obtain ⟨g, -, rfl⟩ := stored; exact .of_eq rfl rfl rfl
  all_goals subst stored; exact .of_eq rfl rfl rfl

theorem door_set (c : Byte) (v : Word) (h : DoorInv s) : DoorInv (set c v s).1 := by
  unfold set; split
  · unfold setNamed; split
    next stored => exact h.same (sameDoors_storeSetting stored)
    · exact h
  · exact h

/-- R172: a request is carried out by its own rule. -/
theorem door_runRequest (r : Request) (hs : DoorRegistry s) : DoorInv (runRequest r s).1 := by
  have h := hs.2
  cases r with
  | book n a => exact door_book n a hs
  | amend n a => exact door_amend n a h
  | retire n => exact door_retire n hs
  | lookup sel op =>
    simp only [runRequest, lookup]
    split
    · exact onNamed_keeps h fun _ _ _ _ => h
    all_goals exact h
  | list st => simp only [runRequest, list]; split <;> exact h
  | assign b n => exact door_assign b n hs
  | rebase n => exact door_rebase n h
  | defrostNow n => exact door_defrostNow n h
  | defrostStop n => exact door_defrostStop n h
  | bayStatus b => exact onBay_keeps h fun _ => h
  | bayEnable b => exact onBay_keeps h fun b => h.same (sameDoors_enable b s)
  | bayDisable b => exact onBay_keeps h fun b => h.same (sameDoors_disable b s)
  | clearFault b => exact door_commandClearFault b h
  | spot b k => exact door_spot b k h
  | curveWrite c k n pts => exact door_curveWrite c k n pts h
  | curveRead c => simp only [runRequest, curveRead]; split <;> exact h
  | curveClear c => exact door_curveClear c h
  | set x v => exact door_set x v h
  | get x => simp only [runRequest, get]; split <;> exact h
  | routeSet k m c => simp only [runRequest, routeSet]; split <;> exact h
  | routeRead k => simp only [runRequest, routeRead]; split <;> exact h
  | take => exact h
  | ack k p => simp only [runRequest, ack]; split <;> exact h
  | reset => exact h

end

end Sys2Proof.Machine

namespace Sys2Proof.Machine

/-! # Every step keeps the door copies true (O60) -/

/-! ## The round -/

theorem doorRegistry_defrostRound (b : Bay) : Keeps DoorRegistry (defrostRound b) := fun s hs =>
  hs.same (quiet_defrostRound b s).toSameRegistry (sameDoors_defrostRound b s)

/-- A row that is a part of the round start's work at a record (log 8). -/
theorem doorRegistry_roundPart {work : Bay → State → State} (part : ∀ b s, work b s = s ∨ work b s = defrostRound b s)
    (b : Bay) : Keeps DoorRegistry (work b) := by
  intro s hs
  rcases part b s with nothing | done
  · rw [nothing]; exact hs
  · rw [done]; exact doorRegistry_defrostRound b s hs

theorem doorRegistry_retry (b : Bay) : Keeps DoorRegistry (retry b) := by
  intro s hs
  unfold retry; split
  next n hb =>
    have tag : n ≠ 0 := fun e => registry_keptByWork.heldTag s b _ hs.1 hb (by rw [e]; rfl)
    exact (hs.settles_of_held hb).matchNumber tag
  all_goals exact hs

theorem doorRegistry_doorRound (b : Bay) : Keeps DoorRegistry (doorRound b) := by
  intro s hs
  refine ⟨registry_keptByWork.doorRound b s hs.1, ?_⟩
  unfold doorRound; split
  next watched => exact (hs.doorWatched watched).round
  · exact hs.2

theorem doorRegistry_bayRound (b : Bay) : Keeps DoorRegistry (bayRound b) := by
  intro s hs
  have channels : DoorRegistry (channelRound b s) :=
    hs.quiet (quiet_channelRound b s) (by rw [channelRound_frame]) (by rw [channelRound_frame])
  exact doorRegistry_doorRound b _ (doorRegistry_retry b _ (doorRegistry_defrostRound b _ channels))

/-! ## The tag reader -/

theorem doorRegistry_deliverOutcome {o : Option TrailerNo} (good : o ≠ some 0) :
    Keeps DoorRegistry (deliverOutcome o) := by
  intro s hs
  unfold deliverOutcome
  cases hq : s.reader.queue with
  | nil => exact hs
  | cons b rest =>
    have vacant := hs.1.vacant_of_head hq s.timer.timeUs
    have settles := vacant.settles.doorRegistry vacant.refs hs.2
    cases o with
    | none => exact settles.hold .tagFail nofun
    | some n => exact settles.matchNumber fun zero => good (by rw [zero])

theorem doorRegistry_attemptFails (n start : Nat) {s : State} (busy : s.reader.state ≠ .idle) (hs : DoorRegistry s) :
    DoorRegistry (attemptFails n start s) := by
  unfold attemptFails; split
  · exact doorRegistry_deliverOutcome (o := none) (by simp) s hs
  · exact hs.quiet (quiet_enterSpacing busy) rfl rfl

theorem doorRegistry_presenceWindowClose : Keeps DoorRegistry presenceWindowClose := by
  intro s hs
  unfold presenceWindowClose; split
  next attempt =>
    have line := quiet_bringHeadLine true s
    have brought : DoorRegistry (bringHeadLine true s) :=
      hs.quiet line (by rw [bringHeadLine_frame]) (by rw [bringHeadLine_frame])
    refine doorRegistry_attemptFails _ _ ?_ (brought.quiet (quiet_bringTo _ _ _) rfl rfl)
    exact fun idle => by rw [line.idle.1 idle] at attempt; cases attempt
  all_goals exact hs

theorem doorRegistry_attemptJudged : Keeps DoorRegistry attemptJudged := by
  intro s hs
  unfold attemptJudged; split
  next bytes attempt =>
    split
    · exact hs
    · split
      next number judged => exact doorRegistry_deliverOutcome (judged ▸ judge_ne_zero bytes) s hs
      · refine doorRegistry_attemptFails _ _ ?_ (hs.quiet (quiet_bringTo _ _ s) rfl rfl)
        rw [State.modReader_reader, Reader.bringTo_state, attempt]; nofun
  all_goals exact hs

/-! ## The lines of a bay -/

theorem doorRegistry_connect (b : Bay) : Keeps DoorRegistry (connect b) := fun s hs =>
  ⟨registry_connect b s hs.1, door_connect hs.1 hs.2⟩

theorem doorRegistry_disconnect (b : Bay) : Keeps DoorRegistry (disconnect b) := fun s hs =>
  ⟨registry_disconnect b s hs.1, door_disconnect hs.refs hs.2⟩

theorem doorRegistry_senseAcceptance (b : Bay) (level : Bool) : Keeps DoorRegistry (senseAcceptance b level) := by
  intro s hs
  have stands := hs.quiet (quiet_modLines b (fun x => { x with sense := level }) s) rfl rfl
  unfold senseAcceptance; split
  · exact hs
  · dsimp only
    split
    · exact doorRegistry_connect b _ stands
    · exact doorRegistry_disconnect b _ stands

theorem doorRegistry_doorAcceptance (b : Bay) (closed : Bool) : Keeps DoorRegistry (doorAcceptance b closed) := by
  intro s hs
  refine ⟨registry_keptByWork.doorAcceptance b closed s hs.1, ?_⟩
  unfold doorAcceptance; split
  next new => exact (((hs.doorWatched new.1).modLines _).acceptDoor closed).copies
  · exact hs.2

theorem doorRegistry_runAcceptance (b : Bay) (active : Bool) : Keeps DoorRegistry (runAcceptance b active) := by
  intro s hs
  refine ⟨registry_keptByWork.runAcceptance b active s hs.1, ?_⟩
  unfold runAcceptance; split
  next new => exact ((hs.doorWatched new.1).modLines _).modDoor.copies
  · exact hs.2

theorem doorRegistry_overcurrentAcceptance (b : Bay) (closed : Bool) :
    Keeps DoorRegistry (overcurrentAcceptance b closed) := by
  intro s hs
  refine ⟨registry_keptByWork.overcurrentAcceptance b closed s hs.1, ?_⟩
  unfold overcurrentAcceptance; split
  next new => exact ((hs.doorWatched new.1).modLines _).acceptOvc closed
  · exact hs.2

theorem doorRegistry_senseSample (b : Bay) (level : Bool) : Keeps DoorRegistry (senseSample b level) := by
  intro s hs
  have counted {f : BayCtl → BayCtl} (same : ∀ x, (f x).core = x.core) : DoorRegistry (s.modBay b f) :=
    hs.quiet (quiet_modBay s same) rfl rfl
  unfold senseSample; split
  · exact counted fun _ => rfl
  · split
    · split
      · exact doorRegistry_connect b s hs
      · exact doorRegistry_disconnect b s hs
    · exact counted fun _ => rfl

theorem doorRegistry_watchedSamples (b : Bay) (x : LineSample) : Keeps DoorRegistry (watchedSamples b x) := by
  intro s hs
  refine ⟨registry_keptByWork.watchedSamples b x s hs.1, ?_⟩
  unfold watchedSamples; split
  next watched => exact (hs.doorWatched watched).samples x
  · exact hs.2

theorem doorRegistry_bayTick (samples : Vector LineSample 16) (b : Bay) : Keeps DoorRegistry (bayTick samples b) := by
  intro s hs
  simp only [bayTick]; split
  · split
    · exact doorRegistry_watchedSamples b _ _ (doorRegistry_senseSample b _ s hs)
    · exact doorRegistry_senseSample b _ s hs
  · exact doorRegistry_senseSample b _ _ (doorRegistry_watchedSamples b _ s hs)

/-! ## Every row -/

theorem doorRegistry_microsecond : Keeps DoorRegistry microsecond := by
  intro s hs
  refine hs.quiet (quiet_microsecond s) ?_ ?_ <;> (simp only [microsecond]; split <;> rfl)

theorem doorRegistry_keptByRows : KeptByRows DoorRegistry where
  queue s waiting hs := hs.same (.of_eq rfl rfl rfl) (.of_eq rfl rfl rfl)
  link f s hs := hs.quiet (quiet_modLink f s) rfl rfl
  timer f s hs := hs.quiet (quiet_modTimer f s) rfl rfl
  outside f s hs := hs.quiet (quiet_modOutside f s) rfl rfl
  converter f s hs := hs.quiet (quiet_modConverter f s) rfl rfl
  request r s hs := ⟨registry_keptByWork.runRequest r hs.1, door_runRequest r hs⟩
  beginReset cause s := ⟨registry_beginReset cause s, doorInv_reset.same (.of_eq rfl rfl rfl)⟩
  resetOver _ s hs := hs.same (.of_eq rfl rfl rfl) (.of_eq rfl rfl rfl)
  openRound s hs := hs.quiet (quiet_openRound s) rfl rfl
  bayRound := doorRegistry_bayRound
  pointWork p s hs := ⟨registry_keptByWork.pointWork p s hs.1, hs.2.same (sameDoors_pointWork s p)⟩
  intervalExpiry := doorRegistry_roundPart intervalExpiryAt_eq
  expiryInWaiting := doorRegistry_roundPart expiryInWaitingAt_eq
  endByMaximum := doorRegistry_roundPart endByMaximumAt_eq
  dripEnd := doorRegistry_roundPart dripEndAt_eq
  deliverReading ch x s hs := hs.same (sameRegistry_deliverReading ch x s) (sameDoors_deliverReading s ch x)
  wakeEnd s hs := hs.quiet (quiet_wakeEnd s) rfl rfl
  presenceSeen s hs := hs.quiet (quiet_presenceSeen s) (by rw [presenceSeen_frame]) (by rw [presenceSeen_frame])
  presenceWindowClose := doorRegistry_presenceWindowClose
  attemptJudged := doorRegistry_attemptJudged
  spacingEnd s hs := hs.quiet (quiet_spacingEnd s) rfl rfl
  bitSlotSample high s hs := hs.quiet (quiet_bitSlotSample high s) (by rw [bitSlotSample_frame])
    (by rw [bitSlotSample_frame])
  senseAcceptance := doorRegistry_senseAcceptance
  doorAcceptance := doorRegistry_doorAcceptance
  runAcceptance := doorRegistry_runAcceptance
  overcurrentAcceptance := doorRegistry_overcurrentAcceptance
  powerGoodWaitEnd b s hs := hs.same (quiet_powerGoodWaitEnd b s).toSameRegistry (sameDoors_powerGoodWaitEnd b s)
  bayTick := doorRegistry_bayTick
  microsecond := doorRegistry_microsecond

/-- Settles O60: together with the registry, the unwatched values and the door copies are kept by the work of every
row. -/
theorem stepKeepsTheDoorCopy : Obligations.StepKeepsTheDoorCopy := fun _ _ hr hs ht =>
  (doorRegistry_keptByRows.step ⟨hr, hs⟩ ht).2

end Sys2Proof.Machine

namespace Sys2Proof.Machine

/-! # Door acceptances and the round start at a watched bay (O27, O28) -/

section
variable {b : Bay} {s : State}

/-! ## Changes of one door watch and of the record's copy -/

theorem State.modDoor_congr {f g : DoorWatch → DoorWatch} (h : f s.doors[b] = g s.doors[b]) :
    s.modDoor b f = s.modDoor b g := by rw [State.modDoor, h]; rfl

/-- A door watch that a change leaves as it stands. -/
theorem State.modDoor_same {f : DoorWatch → DoorWatch} (h : f s.doors[b] = s.doors[b]) : s.modDoor b f = s := by
  rw [State.modDoor, h, vector_set_self]

theorem State.modDoor_modDoor (f g : DoorWatch → DoorWatch) :
    (s.modDoor b f).modDoor b g = s.modDoor b fun d => g (f d) := by
  simp only [State.modDoor, vector_set_same, vector_set_set]

theorem State.modParked_modDoor (f : Record → Record) (g : DoorWatch → DoorWatch) :
    (s.modDoor b g).modParked b f = (s.modParked b f).modDoor b g := by
  cases hi : s.bays[b].ref with
  | none => rw [State.modParked_of_no_ref hi, State.modParked_of_no_ref (s := s.modDoor b g) hi]
  | some i => rw [State.modParked_of_ref hi, State.modParked_of_ref (s := s.modDoor b g) hi]; rfl

/-- R152: the figures and the copy of them, each written by itself. -/
theorem modFigures_eq (f : DoorFigures → DoorFigures) : modFigures b f s =
    (s.modParked b fun r => { r with door := f s.doors[b].figures }).modDoor b
      fun d => { d with figures := f d.figures } := by
  rw [modFigures, mirror, State.modParked_modDoor, State.modDoor_doors, vector_set_same]

/-- The record that a bay refers to, after a change of it. -/
theorem recordAt_modParked (f : Record → Record) : (s.modParked b f).recordAt b = (s.recordAt b).map f := by
  cases hi : s.bays[b].ref with
  | none => rw [State.modParked_of_no_ref hi, State.recordAt_of_no_ref hi]; rfl
  | some i =>
    rw [State.modParked_of_ref hi, State.recordAt_of_ref hi, State.recordAt_of_ref (s := s.modSlot i f) hi,
      State.modSlot_table, vector_set_same]

theorem trailerAt_modParked {f : Record → Record} (h : ∀ r, (f r).number = r.number) :
    (s.modParked b f).trailerAt b = s.trailerAt b := by
  rw [State.trailerAt, recordAt_modParked, Option.map_map]
  exact congrArg ((s.recordAt b).map ·) (funext h)

/-! ## Acceptances on the door loop (R147, R150, Table 47) -/

/-- R147, R152: a bay whose door has been accepted with the figures `g`, with its settle count and DOOR_LONG. -/
def doorMoved (b : Bay) (g : DoorFigures) (settle : Nat) (long : Bool) (s : State) : State :=
  (s.modParked b fun r => { r with door := g }).modDoor b fun d =>
    { d with figures := g, settle := settle, doorLong := long, doorLine := .none }

theorem doorMoved_trailerAt (g : DoorFigures) (settle : Nat) (long : Bool) :
    (doorMoved b g settle long s).trailerAt b = s.trailerAt b := trailerAt_modParked fun _ => rfl

theorem trailerAt_ceaseIf (p : Bool) (k : BayKind) : (ceaseIf p k b s).trailerAt b = s.trailerAt b := by
  cases p <;> rfl

/-- R147: the figures moved, behind changes of what is not mirrored. -/
theorem modFigures_modDoor_eq (f : DoorFigures → DoorFigures) {g : DoorWatch → DoorWatch} {settle : Nat}
    (moved : g s.doors[b] = { s.doors[b] with settle := settle, doorLine := .none }) :
    modFigures b f (s.modDoor b g) = doorMoved b (f s.doors[b].figures) settle s.doors[b].doorLong s := by
  rw [modFigures_eq, State.modParked_modDoor, State.modDoor_modDoor, State.modDoor_doors, vector_set_same, moved]
  refine State.modDoor_congr ?_
  rw [State.modParked_doors, moved]

/-- R147: DOOR_LONG ceases behind a move. -/
theorem endDoorLong_doorMoved (g : DoorFigures) (settle : Nat) (long : Bool) :
    endDoorLong b (doorMoved b g settle long s) = ceaseIf long .doorLong b (doorMoved b g settle false s) := by
  have moved : (doorMoved b g settle long s).doors[b].doorLong = long := by
    rw [doorMoved, State.modDoor_doors, vector_set_same]
  have ended : (doorMoved b g settle long s).modDoor b (fun d => { d with doorLong := false }) =
      doorMoved b g settle false s := State.modDoor_modDoor ..
  rw [endDoorLong, moved, ← ended]
  cases long <;> rfl

/-- R144: an acceptance leaves no run, and the figures as they are until Table 47 moves them. -/
theorem lineAccepted_state {x : DoorState} (h : s.doors[b].figures.state = x) :
    (s.modDoor b fun d => { d with doorLine := .none }).doors[b].figures.state = x := by
  rw [State.modDoor_doors, vector_set_same]; exact h

theorem acceptDoor_opened_of_shut (h : s.doors[b].figures.state = .shut) : acceptDoor b false s =
    guardEvent s.guard.onOpening b (doorMoved b
      { state := .opened, openings := bump Config.counterMax s.doors[b].figures.openings, openRounds := 0,
        lastChange := some s.timer.number } 0 s.doors[b].doorLong s) := by
  show acceptOpen b (s.modDoor b fun d => { d with doorLine := .none }) = _
  simp only [acceptOpen, lineAccepted_state h, State.modDoor_modDoor]
  rw [modFigures_modDoor_eq _ rfl]; rfl

theorem acceptDoor_opened_of_unknown (h : s.doors[b].figures.state = .unknown) : acceptDoor b false s =
    doorMoved b { s.doors[b].figures with state := .opened, openRounds := 0, lastChange := some s.timer.number }
      s.doors[b].settle s.doors[b].doorLong s := by
  show acceptOpen b (s.modDoor b fun d => { d with doorLine := .none }) = _
  simp only [acceptOpen, lineAccepted_state h]
  rw [modFigures_modDoor_eq _ rfl]; rfl

theorem acceptDoor_shut_of_opened (h : s.doors[b].figures.state = .opened) : acceptDoor b true s =
    guardEvent s.guard.onShutting b (ceaseIf s.doors[b].doorLong .doorLong b (doorMoved b
      { s.doors[b].figures with state := .shut, lastChange := some s.timer.number } s.settleRounds false s)) := by
  show acceptShut b (s.modDoor b fun d => { d with doorLine := .none }) = _
  simp only [acceptShut, lineAccepted_state h, State.modDoor_modDoor]
  rw [modFigures_modDoor_eq _ rfl, endDoorLong_doorMoved]; rfl

theorem acceptDoor_shut_of_unknown (h : s.doors[b].figures.state = .unknown) : acceptDoor b true s =
    doorMoved b { s.doors[b].figures with state := .shut, lastChange := some s.timer.number } s.settleRounds
      s.doors[b].doorLong s := by
  show acceptShut b (s.modDoor b fun d => { d with doorLine := .none }) = _
  simp only [acceptShut, lineAccepted_state h, State.modDoor_modDoor]
  rw [modFigures_modDoor_eq _ rfl]; rfl

theorem Guard.onOpening_eq (g : Guard) : g.onOpening = (g != .off) := by cases g <;> rfl

theorem Guard.onShutting_eq (g : Guard) : g.onShutting = (g == .any) := by cases g <;> rfl

/-- R150: DOOR_GUARD carries the trailer number of the bay's record, which a door acceptance leaves. -/
theorem guardEvent_doorMoved (asked ceases : Bool) (g : DoorFigures) (settle : Nat) (long : Bool) :
    guardEvent asked b (ceaseIf ceases .doorLong b (doorMoved b g settle long s)) =
      if asked then raiseAt .doorGuard b (s.trailerAt b) none (ceaseIf ceases .doorLong b (doorMoved b g settle long s))
      else ceaseIf ceases .doorLong b (doorMoved b g settle long s) := by
  rw [guardEvent, trailerAt_ceaseIf, doorMoved_trailerAt]

/-! ## The round start (R148, R149) -/

theorem doorLimit_eq (b : Bay) (s : State) : doorLimit s b = match s.recordAt b with
    | none => 1800
    | some r => if s.doors[b].run = .running then r.settings.doorRunning else r.settings.doorStopped := by
  unfold doorLimit
  cases s.recordAt b with
  | none => rfl
  | some r => cases run : s.doors[b].run <;> simp

/-- R149: the limit follows from the run state and the settings of the bay's record. -/
theorem doorLimit_congr {t : State} (run : t.doors[b].run = s.doors[b].run)
    (settings : (t.recordAt b).map (·.settings) = (s.recordAt b).map (·.settings)) : doorLimit t b = doorLimit s b := by
  rw [doorLimit_eq, doorLimit_eq, run]
  cases hs : s.recordAt b with
  | none =>
    rw [hs, Option.map_none, Option.map_eq_none_iff] at settings
    rw [settings]
  | some r =>
    rw [hs, Option.map_some, Option.map_eq_some_iff] at settings
    obtain ⟨q, hq, same⟩ := settings
    simp only [hq, same]

/-- R149: DOOR_LONG becomes what is judged, and a change is reported. -/
theorem judgeDoorLong_eq {long : Bool}
    (judged : (s.doors[b].figures.state == .opened && decide (doorLimit s b ≤ s.doors[b].figures.openRounds)) = long) :
    judgeDoorLong b s =
      if long = s.doors[b].doorLong then s.modDoor b fun d => { d with doorLong := long }
      else if long then presentAt .doorLong b (s.trailerAt b) (some (.rounds s.doors[b].figures.openRounds))
        (s.modDoor b fun d => { d with doorLong := long })
      else ceaseAt .doorLong b (s.modDoor b fun d => { d with doorLong := long }) := by
  unfold judgeDoorLong
  simp only [judged]
  have same (h : s.doors[b].doorLong = long) : s = s.modDoor b fun d => { d with doorLong := long } :=
    (State.modDoor_same (by rw [← h])).symm
  cases before : s.doors[b].doorLong <;> cases long
  · exact same before
  · rfl
  · rfl
  · exact same before

/-- R148: the figures of a watched bay after a round start. -/
def DoorFigures.counted (f : DoorFigures) : DoorFigures :=
  if f.state = .opened then { f with openRounds := min 65535 (f.openRounds + 1) } else f

theorem DoorFigures.counted_of_not_opened {f : DoorFigures} (h : f.state ≠ .opened) : f.counted = f := if_neg h

theorem DoorFigures.counted_state (f : DoorFigures) : f.counted.state = f.state := by
  unfold DoorFigures.counted; split <;> rfl

/-- R152: the copy of the figures after a round start, in the record of a bay whose door is open. -/
def countedCopy (b : Bay) (s : State) : State :=
  if s.doors[b].figures.state = .opened then s.modParked b fun r => { r with door := s.doors[b].figures.counted } else s

theorem countedCopy_doors (b : Bay) (s : State) : (countedCopy b s).doors = s.doors := by
  unfold countedCopy; split
  · exact State.modParked_doors ..
  · rfl

theorem countedCopy_record {α : Type} {k : Record → α} (h : ∀ r d, k { r with door := d } = k r) :
    ((countedCopy b s).recordAt b).map k = (s.recordAt b).map k := by
  unfold countedCopy; split
  · rw [recordAt_modParked, Option.map_map]
    exact congrArg ((s.recordAt b).map ·) (funext fun r => h r _)
  · rfl

/-- R148: a round start counts open rounds, with the record's copy, or the settle count. -/
theorem doorCounts_eq (b : Bay) (s : State) : doorCounts b s =
    (countedCopy b s).modDoor b fun d => { d with
      figures := s.doors[b].figures.counted
      settle := if s.doors[b].figures.state = .shut then s.doors[b].settle - 1 else s.doors[b].settle } := by
  unfold countedCopy doorCounts
  cases h : s.doors[b].figures.state with
  | opened =>
    have counted : s.doors[b].figures.counted =
        { s.doors[b].figures with openRounds := bump Config.counterMax s.doors[b].figures.openRounds } := if_pos h
    simp only [if_true, reduceCtorEq, if_false]
    rw [modFigures_eq, counted]
    exact State.modDoor_congr (by rw [State.modParked_doors])
  | shut =>
    rw [DoorFigures.counted_of_not_opened (by rw [h]; nofun)]
    exact State.modDoor_congr rfl
  | unknown =>
    rw [DoorFigures.counted_of_not_opened (by rw [h]; nofun)]
    exact (State.modDoor_same rfl).symm

theorem doorCounts_doors (b : Bay) (s : State) : (doorCounts b s).doors[b] = { s.doors[b] with
    figures := s.doors[b].figures.counted
    settle := if s.doors[b].figures.state = .shut then s.doors[b].settle - 1 else s.doors[b].settle } := by
  rw [doorCounts_eq, State.modDoor_doors, vector_set_same, countedCopy_doors]

/-- R152: of the bay's record the counts write the copy alone. -/
theorem doorCounts_record {α : Type} {k : Record → α} (h : ∀ r d, k { r with door := d } = k r) :
    ((doorCounts b s).recordAt b).map k = (s.recordAt b).map k := by
  rw [doorCounts_eq]
  exact countedCopy_record h

end

/-- Settles O27: each row of Table 47 by what it moves, behind the line as it stands. -/
theorem doorAcceptancesAsTable47 : Obligations.DoorAcceptancesAsTable47 := by
  intro s b hr hc f now moved guard
  have row (level : Bool) (new : f.state.level ≠ some level) := exec_doorAcceptance (s := s) hr hc new
  refine ⟨fun h => ?_, fun h => ?_, fun h => ?_, fun h => ?_⟩
  · rw [row false (by rw [h]; nofun), acceptDoor_opened_of_shut (s := s.modLines b _) h, Guard.onOpening_eq]
    exact congrArg _ (guardEvent_doorMoved (s.guard != .off) false ..)
  · rw [row true (by rw [h]; nofun), acceptDoor_shut_of_opened (s := s.modLines b _) h, Guard.onShutting_eq]
    exact congrArg _ (guardEvent_doorMoved (s.guard == .any) ..)
  · exact (row true (by rw [h]; nofun)).trans (congrArg _ (acceptDoor_shut_of_unknown h))
  · exact (row false (by rw [h]; nofun)).trans (congrArg _ (acceptDoor_opened_of_unknown h))

/-- Settles O28: the counts of R148, then the judgement in the state they leave. -/
theorem roundStartCountsAndJudgesTheDoor : Obligations.RoundStartCountsAndJudgesTheDoor := by
  intro s b
  refine ⟨fun away => if_neg (by rw [away]; nofun), fun watched => ?_⟩
  intro d f limit long counted
  have applies : doorLimit (doorCounts b s) b = limit :=
    (doorLimit_congr (by rw [doorCounts_doors]) (doorCounts_record fun _ _ => rfl)).trans (doorLimit_eq b s)
  have trailer : (doorCounts b s).trailerAt b = s.trailerAt b := doorCounts_record fun _ _ => rfl
  have judged : (doorCounts b s).modDoor b (fun x => { x with doorLong := long }) = counted := by
    rw [doorCounts_eq, State.modDoor_modDoor]; rfl
  have round : doorRound b s = judgeDoorLong b (doorCounts b s) := if_pos watched
  rw [round, judgeDoorLong_eq (long := long), judged, trailer, doorCounts_doors]
  · rfl
  · rw [applies, doorCounts_doors, DoorFigures.counted_state]
    exact (Bool.decide_and ..).symm

end Sys2Proof.Machine

namespace Sys2Proof.Machine

/-! # Where the keys of the notice unit stand (R155 to R158)

A key stands in the delivery queue, waits for a place in it, or neither; `standing` says which, with the raise
information that decides its place. What the queue's operations do is said in terms of it. -/

/-- The raise information of a RAISED delivery state, with whether the key is queued. -/
def Delivery.standing : Delivery → Option (RaiseInfo × Bool)
  | .raised info _ queued => some (info, queued)
  | .idle | .taken _ | .acked _ => none

theorem Delivery.standing_eq_some {d : Delivery} {info : RaiseInfo} {q : Bool} :
    d.standing = some (info, q) ↔ ∃ reps, d = .raised info reps q := by
  cases d <;> simp [standing]

/-- A list in which no element of `p` comes behind one that is not of `p` (R157: HIGH before LOW). -/
theorem pairwise_iff_dropWhile {α : Type} (p : α → Bool) (l : List α) :
    l.Pairwise (fun a b => p b = true → p a = true) ↔ ∀ x ∈ l.dropWhile p, p x = false := by
  induction l with
  | nil => simp
  | cons a l ih =>
    rw [List.pairwise_cons]
    by_cases ha : p a = true
    · rw [List.dropWhile_cons_of_pos ha, ← ih]
      exact ⟨fun h => h.2, fun h => ⟨fun _ _ _ => ha, h⟩⟩
    · rw [List.dropWhile_cons_of_neg ha]
      constructor
      · rintro ⟨before, -⟩ x hx
        rcases List.mem_cons.1 hx with rfl | hx
        · exact Bool.eq_false_iff.2 ha
        · exact Bool.eq_false_iff.2 fun high => ha (before x hx high)
      · intro low
        have none : ∀ x ∈ l, p x = false := fun x hx => low x (List.mem_cons_of_mem a hx)
        refine ⟨fun x hx high => ?_, List.pairwise_of_forall_mem_list fun x _ y hy high => ?_⟩
        · rw [none x hx] at high; cases high
        · rw [none y hy] at high; cases high

/-- Such a list is its elements of `p`, then the others. -/
theorem takeWhile_eq_filter {α : Type} {p : α → Bool} {l : List α} (h : ∀ x ∈ l.dropWhile p, p x = false) :
    l.takeWhile p = l.filter p ∧ l.dropWhile p = l.filter fun x => !p x := by
  have first : ∀ x ∈ l.takeWhile p, p x = true := fun x hx => List.mem_takeWhile_imp hx
  have split := List.takeWhile_append_dropWhile (p := p) (l := l)
  constructor
  · conv_rhs => rw [← split, List.filter_append, List.filter_eq_self.2 first,
      List.filter_eq_nil_iff.2 fun x hx => by rw [h x hx]; nofun, List.append_nil]
  · conv_rhs => rw [← split, List.filter_append, List.filter_eq_nil_iff.2 fun x hx => by rw [first x hx]; nofun,
      List.filter_eq_self.2 fun x hx => by rw [h x hx]; rfl, List.nil_append]

namespace Notices

section
variable {n m : Notices} {j k : Key} {v : Slot} {info : RaiseInfo} {q : Bool} {now : Round}

theorem putSlot_putSlot (n : Notices) (k : Key) (v w : Slot) : (n.putSlot k v).putSlot k w = n.putSlot k w := by
  simp only [putSlot, vector_set_set]

/-- Where a key stands. -/
def standing (n : Notices) (k : Key) : Option (RaiseInfo × Bool) := (n.slot k).delivery.standing

theorem standing_putSlot_same (n : Notices) (k : Key) (v : Slot) : (n.putSlot k v).standing k = v.delivery.standing := by
  rw [standing, slot_putSlot_same]

theorem standing_putSlot_other (n : Notices) (v : Slot) (h : j ≠ k) : (n.putSlot k v).standing j = n.standing j := by
  rw [standing, slot_putSlot_other n v h]; rfl

theorem standing_enter (n : Notices) (k j : Key) : (n.enter k).standing j = n.standing j := by
  rw [standing, slot_enter]; rfl

theorem raisedInfo_eq (n : Notices) (k : Key) : n.raisedInfo k = (n.standing k).map (·.1) := by
  unfold raisedInfo standing; split <;> simp [Delivery.standing, *]

theorem waitingInfo_eq_some : n.waitingInfo k = some info ↔ n.standing k = some (info, false) := by
  unfold waitingInfo standing; split <;> simp [Delivery.standing, *]

theorem isHigh_eq (n : Notices) (k : Key) : n.isHigh k = (n.standing k).any fun x => x.1.cls == .high := by
  rw [isHigh, raisedInfo_eq]; cases n.standing k <;> rfl

/-- R157: the class is that of the standing. -/
theorem isHigh_congr (h : m.standing k = n.standing k) : m.isHigh k = n.isHigh k := by rw [isHigh_eq, isHigh_eq, h]

theorem isHigh_of_standing (h : n.standing k = some (info, q)) : n.isHigh k = (info.cls == .high) := by
  rw [isHigh_eq, h]; rfl

/-- R157: entering a queue in order: behind the HIGH keys, or behind all. -/
theorem enter_eq (h : ∀ j ∈ n.queue.dropWhile n.isHigh, n.isHigh j = false) (k : Key) :
    n.enter k = n.setQueue (if n.isHigh k = true then n.queue.filter n.isHigh ++ k :: n.queue.filter fun j => !n.isHigh j
      else n.queue ++ [k]) := by
  obtain ⟨high, low⟩ := takeWhile_eq_filter h
  rw [enter, high, low]
  split <;> rfl

theorem markQueued_eq (h : n.standing k = some (info, q)) : ∃ reps, (n.slot k).delivery = .raised info reps q ∧
    n.markQueued k = n.putSlot k { n.slot k with delivery := .raised info reps true } := by
  obtain ⟨reps, raised⟩ := Delivery.standing_eq_some.1 h
  exact ⟨reps, raised, by rw [markQueued, raised]⟩

/-! ## The first of the waiting keys (R158) -/

/-- R158: a key that does not wait, or waits behind the best so far, leaves the best as it is. -/
theorem betterWaiting_keeps {best : Key × RaiseInfo}
    (h : ∀ other, n.waitingInfo k = some other → raisedBefore now other best.2 = false) :
    betterWaiting now n (some best) k = some best := by
  unfold betterWaiting
  cases w : n.waitingInfo k with
  | none => rfl
  | some other => simp only [h other w, Bool.false_eq_true, if_false]

theorem betterWaiting_takes (h : n.waitingInfo k = some info) {best : Option (Key × RaiseInfo)}
    (before : ∀ x ∈ best, raisedBefore now info x.2 = true) : betterWaiting now n best k = some (k, info) := by
  unfold betterWaiting
  rw [h]
  cases best with
  | none => rfl
  | some x => simp only [before x rfl, if_true]

/-- R158: the best is as before, or the key if it waits. -/
theorem betterWaiting_cases (now : Round) (n : Notices) (best : Option (Key × RaiseInfo)) (k : Key) :
    betterWaiting now n best k = best ∨ ∃ info, n.waitingInfo k = some info ∧ betterWaiting now n best k = some (k, info) := by
  unfold betterWaiting
  cases n.waitingInfo k with
  | none => exact .inl rfl
  | some info =>
    cases best with
    | none => exact .inr ⟨info, rfl, rfl⟩
    | some x =>
      dsimp only
      split
      · exact .inr ⟨info, rfl, rfl⟩
      · exact .inl rfl

theorem foldl_betterWaiting_keeps {best : Key × RaiseInfo} (keys : List Key)
    (h : ∀ k ∈ keys, ∀ other, n.waitingInfo k = some other → raisedBefore now other best.2 = false) :
    keys.foldl (betterWaiting now n) (some best) = some best := by
  induction keys with
  | nil => rfl
  | cons k rest ih =>
    rw [List.foldl_cons, betterWaiting_keeps (h k List.mem_cons_self)]
    exact ih fun j hj => h j (List.mem_cons_of_mem k hj)

/-- R158: the best of several keys is one of them that waits. -/
theorem foldl_betterWaiting_mem (keys : List Key) {best : Option (Key × RaiseInfo)}
    (h : keys.foldl (betterWaiting now n) best = some (k, info)) :
    best = some (k, info) ∨ k ∈ keys ∧ n.waitingInfo k = some info := by
  induction keys generalizing best with
  | nil => exact .inl h
  | cons j rest ih =>
    rcases ih h with found | ⟨later, waits⟩
    · rcases betterWaiting_cases now n best j with same | ⟨other, waits, taken⟩
      · exact .inl (same ▸ found)
      · obtain ⟨rfl, rfl⟩ : j = k ∧ other = info := by simpa using taken.symm.trans found
        exact .inr ⟨List.mem_cons_self, waits⟩
    · exact .inr ⟨List.mem_cons_of_mem j later, waits⟩

/-- R158: with a best, or a key that waits, there is a best. -/
theorem foldl_betterWaiting_none (keys : List Key) {best : Option (Key × RaiseInfo)}
    (h : keys.foldl (betterWaiting now n) best = none) : best = none ∧ ∀ k ∈ keys, n.waitingInfo k = none := by
  induction keys generalizing best with
  | nil => exact ⟨h, nofun⟩
  | cons j rest ih =>
    obtain ⟨stepped, others⟩ := ih h
    have here : n.waitingInfo j = none ∧ best = none := by
      unfold betterWaiting at stepped
      cases w : n.waitingInfo j with
      | none => rw [w] at stepped; exact ⟨rfl, stepped⟩
      | some info =>
        rw [w] at stepped
        cases best with
        | none => cases stepped
        | some x => dsimp only at stepped; split at stepped <;> cases stepped
    exact ⟨here.2, List.forall_mem_cons.2 ⟨here.1, others⟩⟩

end

end Notices

/-! ## All keys, by kind number and position (R155) -/

theorem bayKinds_ascending : bayKinds.Pairwise fun k l => k.index < l.index := by decide

/-- R158: kinds by number, bays ascending within a kind, ROW last. -/
theorem allKeys_ascending : allKeys.Pairwise fun i j => i.index < j.index := by
  have bays (k : BayKind) : (allBays.map (Key.bay k)).Pairwise fun i j => i.index < j.index :=
    List.pairwise_map.2 (allBays_ascending.imp fun {b c} (lower : b.val < c.val) =>
      show k.index.val * 16 + b.val < k.index.val * 16 + c.val by omega)
  have kinds (k l : BayKind) (lower : k.index.val < l.index.val) :
      ∀ i ∈ allBays.map (Key.bay k), ∀ j ∈ allBays.map (Key.bay l), i.index < j.index := by
    simp only [List.forall_mem_map]
    exact fun b _ c _ => show k.index.val * 16 + b.val < l.index.val * 16 + c.val by omega
  refine List.pairwise_append.2 ⟨List.pairwise_flatMap.2 ⟨fun k _ => bays k, bayKinds_ascending.imp fun {k l} => kinds k l⟩,
    List.pairwise_singleton _ _, ?_⟩
  simp only [List.mem_flatMap, List.mem_map, List.mem_singleton]
  rintro _ ⟨k, -, b, -, rfl⟩ _ rfl
  exact show k.index.val * 16 + b.val < 240 by omega

theorem mem_allKeys (k : Key) : k ∈ allKeys := by
  cases k with
  | feederSag => exact List.mem_append_right _ (List.mem_singleton_self _)
  | bay kind b =>
    have kinds : kind ∈ bayKinds := by cases kind <;> decide
    exact List.mem_append_left _ (List.mem_flatMap.2 ⟨kind, kinds, List.mem_map_of_mem (mem_allBays b)⟩)

namespace Notices

section
variable {n : Notices} {k : Key} {info : RaiseInfo} {now : Round}

/-- R158: whether the raise `a` of key `i` stands before the raise `b` of key `j`, by the four keys of order. -/
def Ahead (now : Round) (i : Key) (a : RaiseInfo) (j : Key) (b : RaiseInfo) : Prop :=
  (a.cls = .high ∧ b.cls = .low) ∨ (a.cls = b.cls ∧ ((now - b.round).toNat < (now - a.round).toNat
    ∨ (a.round = b.round ∧ i.index < j.index)))

/-- R158: a raise that stands behind another is not taken before it. -/
theorem raisedBefore_of_ahead {i j : Key} {a b : RaiseInfo} (h : Ahead now i a j b) : raisedBefore now b a = false := by
  have later (hc : (now - b.round).toNat < (now - a.round).toNat ∨ a.round = b.round ∧ i.index < j.index) :
      ¬ age now a.round < age now b.round := by
    rcases hc with older | ⟨same, -⟩
    · exact Nat.not_lt.2 older.le
    · rw [same]; exact lt_irrefl _
  rcases h with ⟨ha, hb⟩ | ⟨hc, hl⟩
  · simp only [raisedBefore, ha, hb]
  · cases ca : a.cls <;> simp only [raisedBefore, ← hc, ca, decide_eq_false_iff_not] <;> exact later hl

/-- R158: of two raises the one that stands ahead is taken, also behind a key of a higher slot. -/
theorem raisedBefore_of_ahead_above {i j : Key} {a b : RaiseInfo} (h : Ahead now i a j b) (above : j.index < i.index) :
    raisedBefore now a b = true := by
  rcases h with ⟨ha, hb⟩ | ⟨hc, older | ⟨-, below⟩⟩
  · simp only [raisedBefore, ha, hb]
  · cases ca : a.cls <;> simp only [raisedBefore, ← hc, ca, decide_eq_true_eq] <;> exact older
  · exact absurd below (lt_asymm above)

theorem firstWaiting_eq_none : n.firstWaiting now = none ↔ ∀ k, n.waitingInfo k = none := by
  rw [firstWaiting, Option.map_eq_none_iff]
  refine ⟨fun h k => (foldl_betterWaiting_none allKeys h).2 k (mem_allKeys k), fun h => ?_⟩
  cases found : allKeys.foldl (betterWaiting now n) none with
  | none => rfl
  | some x =>
    rcases foldl_betterWaiting_mem allKeys found with start | ⟨-, waits⟩
    · cases start
    · rw [h] at waits; cases waits

theorem waiting_of_firstWaiting (h : n.firstWaiting now = some k) : ∃ info, n.waitingInfo k = some info := by
  obtain ⟨⟨j, info⟩, found, rfl⟩ := Option.map_eq_some_iff.1 h
  rcases foldl_betterWaiting_mem allKeys found with start | ⟨-, waits⟩
  · cases start
  · exact ⟨info, waits⟩

/-- R158: the waiting key ahead of all the others is taken: keys before it in the order of slots give way to it, and
those behind do not displace it. -/
theorem firstWaiting_eq_some (h : n.waitingInfo k = some info)
    (first : ∀ j other, j ≠ k → n.waitingInfo j = some other → Ahead now k info j other) :
    n.firstWaiting now = some k := by
  obtain ⟨before, behind, split⟩ := List.append_of_mem (mem_allKeys k)
  have ascending := allKeys_ascending
  rw [split, List.pairwise_append, List.pairwise_cons] at ascending
  obtain ⟨-, ⟨above, -⟩, below⟩ := ascending
  have taken : betterWaiting now n (before.foldl (betterWaiting now n) none) k = some (k, info) := by
    refine betterWaiting_takes h fun x hx => ?_
    rcases foldl_betterWaiting_mem before hx with start | ⟨mem, waits⟩
    · cases start
    · have lower := below x.1 mem k List.mem_cons_self
      exact raisedBefore_of_ahead_above (first x.1 x.2 (fun e => by rw [e] at lower; exact lt_irrefl _ lower) waits) lower
  have kept : behind.foldl (betterWaiting now n) (some (k, info)) = some (k, info) := by
    refine foldl_betterWaiting_keeps behind fun j hj other waits => ?_
    have higher := above j hj
    exact raisedBefore_of_ahead (first j other (fun e => by rw [e] at higher; exact lt_irrefl _ higher) waits)
  rw [firstWaiting, split, List.foldl_append, List.foldl_cons, taken, kept]; rfl

theorem refill_of_none (h : ∀ k, n.waitingInfo k = none) : n.refill now = n := by
  rw [refill, firstWaiting_eq_none.2 h]

end

end Notices

end Sys2Proof.Machine

namespace Sys2Proof.Machine

/-! # Raise, present and cease reports (O46) -/

namespace Notices

section
variable {n : Notices} {now : Round} {k : Key} {t : Option TrailerNo} {v : Option NoticeValue} {info : RaiseInfo}
  {reps : Option Nat} {q : Bool}

/-! ## A raise report (R159) -/

theorem raise_masked (h : (n.route k.kind).masked = true) : n.raise now k t v = n := if_pos h

theorem raise_idle (h : ¬(n.route k.kind).masked = true) (idle : (n.slot k).delivery = .idle) :
    n.raise now k t v = (n.putSlot k { n.slot k with trailer := t, value := v }).becomeRaised now k (some 1) := by
  rw [raise, if_neg h]
  simp only [idle, store]

theorem raise_raised (h : ¬(n.route k.kind).masked = true) (raised : (n.slot k).delivery = .raised info reps q) :
    n.raise now k t v = n.putSlot k { n.slot k with
      delivery := .raised info (reps.map (bump Config.repeatMax)) q, trailer := t, value := v } := by
  simp only [raise, if_neg h, raised]

/-- R159: an event has no other delivery state; at a condition a raise report does nothing. -/
theorem raise_settled (idle : (n.slot k).delivery ≠ .idle) (raised : (n.slot k).delivery.standing = none) :
    n.raise now k t v = n := by
  unfold raise
  cases d : (n.slot k).delivery with
  | idle => exact absurd d idle
  | raised info reps q => rw [d] at raised; cases raised
  | taken info => dsimp only; exact ite_self n
  | acked info => dsimp only; exact ite_self n

/-! ## A present report (R160) -/

theorem present_idle (idle : (n.slot k).delivery = .idle) (h : ¬(n.route k.kind).masked = true) : n.present now k t v =
    (n.putSlot k { n.slot k with present := true, trailer := t, value := v }).becomeRaised now k none := by
  simp only [present, idle, if_neg h]

theorem present_masked (idle : (n.slot k).delivery = .idle) (h : (n.route k.kind).masked = true) :
    n.present now k t v = n.putSlot k { n.slot k with present := true, trailer := t, value := v } := by
  simp only [present, idle, if_pos h]

/-- R160: to a slot that is not IDLE a present report only brings its values. -/
theorem present_standing (h : (n.slot k).delivery ≠ .idle) :
    n.present now k t v = n.putSlot k { n.slot k with present := true, trailer := t, value := v } := by
  unfold present
  cases d : (n.slot k).delivery with
  | idle => exact absurd d h
  | raised info reps q => rfl
  | taken info => rfl
  | acked info => rfl

/-! ## Withdrawing, and a cease report (R161, R164) -/

theorem withdraw_queued (h : (n.slot k).delivery = .raised info reps true) :
    n.withdraw now k = (n.putSlot k { n.slot k with delivery := .idle }).leaveQueue now k := by
  simp only [withdraw, h]

theorem withdraw_waiting (h : (n.slot k).delivery = .raised info reps false) :
    n.withdraw now k = n.putSlot k { n.slot k with delivery := .idle } := by
  simp only [withdraw, h]

/-- R161, R164: only a RAISED slot is withdrawn. -/
theorem withdraw_standing (h : n.standing k = none) : n.withdraw now k = n := by
  unfold withdraw
  cases d : (n.slot k).delivery with
  | raised info reps q => rw [standing, d] at h; cases h
  | _ => rfl

theorem cease_idle (h : (n.slot k).delivery = .idle) :
    n.cease now k = n.putSlot k { n.slot k with present := false } := by
  simp only [cease, h]

theorem cease_taken (h : (n.slot k).delivery = .taken info) :
    n.cease now k = n.putSlot k { n.slot k with present := false } := by
  simp only [cease, h]

theorem cease_acked (h : (n.slot k).delivery = .acked info) :
    n.cease now k = n.putSlot k { n.slot k with present := false, delivery := .idle } := by
  simp only [cease, h, putSlot_putSlot, slot_putSlot_same]

/-- R161: the RAISED slot of a condition that ceases is withdrawn. -/
theorem cease_raised (h : (n.slot k).delivery = .raised info reps q) :
    n.cease now k = (n.putSlot k { n.slot k with present := false }).withdraw now k := by
  unfold cease
  split
  · rfl
  all_goals next d => rw [h] at d; cases d

theorem cease_waiting (h : (n.slot k).delivery = .raised info reps false) :
    n.cease now k = n.putSlot k { n.slot k with present := false, delivery := .idle } := by
  have gone : ((n.putSlot k { n.slot k with present := false }).slot k).delivery = .raised info reps false := by
    rw [slot_putSlot_same]; exact h
  rw [cease_raised h, withdraw_waiting gone, putSlot_putSlot, slot_putSlot_same]

theorem cease_queued (h : (n.slot k).delivery = .raised info reps true) :
    n.cease now k = (n.putSlot k { n.slot k with present := false, delivery := .idle }).leaveQueue now k := by
  have gone : ((n.putSlot k { n.slot k with present := false }).slot k).delivery = .raised info reps true := by
    rw [slot_putSlot_same]; exact h
  rw [cease_raised h, withdraw_queued gone, putSlot_putSlot, slot_putSlot_same]

end

end Notices

/-- Settles O46: each report by the delivery state that it finds. -/
theorem reportsChangeTheirSlot : Obligations.ReportsChangeTheirSlot := fun _ _ _ _ _ =>
  ⟨Notices.raise_masked, Notices.raise_idle, fun _ _ _ => Notices.raise_raised, Notices.present_idle,
    Notices.present_masked, fun _ taken => Notices.present_standing (by rw [taken]; nofun), Notices.cease_idle,
    fun _ => Notices.cease_taken, fun _ => Notices.cease_acked, fun _ _ => Notices.cease_waiting,
    fun _ _ => Notices.cease_queued⟩

/-! # Entry to the delivery queue, and the order of the waiting keys (O47) -/

namespace Notices

section
variable {n : Notices} {now : Round} {k : Key} {reps : Option Nat}

/-- R157: what a slot takes as it becomes RAISED: the current round, and the class of its route. -/
def raiseInfo (n : Notices) (now : Round) (k : Key) : RaiseInfo := { round := now, cls := (n.route k.kind).cls }

theorem becomeRaised_full (h : 24 ≤ n.queue.length) : n.becomeRaised now k reps =
    n.putSlot k { n.slot k with delivery := .raised (n.raiseInfo now k) reps false } := if_neg (Nat.not_lt.2 h)

theorem becomeRaised_room (h : n.queue.length < 24) : n.becomeRaised now k reps =
    (n.putSlot k { n.slot k with delivery := .raised (n.raiseInfo now k) reps true }).enter k := if_pos h

/-- R157, R166: the entry of a key that is not queued, in an orderly queue. -/
theorem enter_putSlot_eq {v : Slot} {info : RaiseInfo} (raised : v.delivery.standing = some (info, true)) (out : k ∉ n.queue)
    (order : ∀ j ∈ n.queue.dropWhile n.isHigh, n.isHigh j = false) : (n.putSlot k v).enter k =
    { n.putSlot k v with
      attn := true
      queue := if info.cls = .high then n.queue.filter n.isHigh ++ k :: n.queue.filter (fun j => !n.isHigh j)
        else n.queue ++ [k] } := by
  have own : (n.putSlot k v).isHigh k = (info.cls == .high) := isHigh_of_standing ((standing_putSlot_same n k v).trans raised)
  have others : ∀ j ∈ n.queue, (n.putSlot k v).isHigh j = n.isHigh j := fun j hj =>
    isHigh_congr (standing_putSlot_other n v fun e => out (e ▸ hj))
  have queued : ∀ j ∈ (n.putSlot k v).queue.dropWhile (n.putSlot k v).isHigh, (n.putSlot k v).isHigh j = false := by
    refine (pairwise_iff_dropWhile _ _).1 (((pairwise_iff_dropWhile _ _).2 order).imp_of_mem fun {a b} ha hb => ?_)
    rw [others a ha, others b hb]; exact id
  have low : n.queue.filter (fun j => !(n.putSlot k v).isHigh j) = n.queue.filter fun j => !n.isHigh j :=
    List.filter_congr fun j hj => congrArg _ (others j hj)
  rw [enter_eq queued, own, queue_putSlot, low, List.filter_congr others]
  simp only [beq_iff_eq]
  split <;> simp [setQueue]

/-- R158: the waiting key ahead of all the others is marked queued, and enters. -/
theorem refill_of_ahead {info : RaiseInfo} (h : n.waitingInfo k = some info)
    (first : ∀ j other, j ≠ k → n.waitingInfo j = some other → Ahead now k info j other) :
    ∃ c, (n.slot k).delivery = .raised info c false
      ∧ n.refill now = (n.putSlot k { n.slot k with delivery := .raised info c true }).enter k := by
  obtain ⟨c, waiting, marked⟩ := markQueued_eq (waitingInfo_eq_some.1 h)
  exact ⟨c, waiting, by rw [refill, firstWaiting_eq_some h first]; exact congrArg (enter k) marked⟩

end

end Notices

/-- Settles O47: a slot becomes RAISED with a place or without one; of the waiting keys the one ahead of the others
enters. -/
theorem keysEnterBehindTheirClass : Obligations.KeysEnterBehindTheirClass := fun _ _ _ _ =>
  ⟨Notices.becomeRaised_full,
    fun room out order => (Notices.becomeRaised_room room).trans (Notices.enter_putSlot_eq rfl out order),
    Notices.refill_of_none, fun _ _ => Notices.refill_of_ahead⟩

end Sys2Proof.Machine

namespace Sys2Proof.Machine

/-! # The notice unit keeps its queue and its slots in order (R155 to R166)

`Orderly` is what the queue and the slots always meet; `Sound` adds that a key waits only while the queue is full, which
fails for the moment between a key's leaving and the filling of its place. -/

/-- R155: what a slot may hold, by whether its kind is a condition. -/
def Slot.allowed (condition : Bool) (x : Slot) : Prop :=
  match x.delivery with
  | .idle => condition = true ∨ x.present = false
  | .raised _ repeats _ =>
    if condition then x.present = true ∧ repeats = none
    else x.present = false ∧ ∃ c, repeats = some c ∧ 1 ≤ c ∧ c ≤ Config.repeatMax
  | .taken _ => condition = true
  | .acked _ => condition = true ∧ x.present = true

namespace Notices

/-- R155, R157, R166: the queue within its places, each key once, HIGH before LOW, its keys those of the slots RAISED and
queued; ATTN as the queue has it; and every slot as its kind allows. -/
structure Orderly (n : Notices) : Prop where
  attn : n.attn = !n.queue.isEmpty
  room : n.queue.length ≤ 24
  nodup : n.queue.Nodup
  order : n.queue.Pairwise fun a b => n.isHigh b = true → n.isHigh a = true
  queued : ∀ k, k ∈ n.queue ↔ ∃ info, n.standing k = some (info, true)
  allowed : ∀ k, (n.slot k).allowed k.kind.isCondition

/-- R158: and a key waits only while the queue is full. -/
structure Sound (n : Notices) : Prop extends Orderly n where
  waits : ∀ k info, n.standing k = some (info, false) → 24 ≤ n.queue.length

section
variable {n : Notices} {k : Key} {v : Slot} {info : RaiseInfo} {now : Round} {t : Option TrailerNo}
  {w : Option NoticeValue} {reps : Option Nat} {q : Bool} {d : Delivery}

/-! ## What `slotOk` asks of a slot -/

theorem Sound.slotOk (h : n.Sound) (k : Key) : n.slotOk k := by
  have allowed := h.allowed k
  have queued := h.queued k
  have waits := h.waits k
  unfold Notices.slotOk
  unfold Slot.allowed at allowed
  unfold standing at queued waits
  cases d : (n.slot k).delivery with
  | raised info reps q =>
    rw [d] at allowed queued waits
    refine ⟨?_, fun waiting => h.room.antisymm (waits info (by rw [waiting]; rfl)), allowed⟩
    rw [queued]
    simp [Delivery.standing]
  | _ => rw [d] at allowed; exact allowed

theorem allowed_of_slotOk (h : n.slotOk k) : (n.slot k).allowed k.kind.isCondition := by
  unfold Notices.slotOk at h
  unfold Slot.allowed
  cases d : (n.slot k).delivery with
  | raised info reps q => rw [d] at h; exact h.2.2
  | _ => rw [d] at h; exact h

theorem slotOk_of_standing (h : n.slotOk k) (stands : n.standing k = some (info, q)) :
    (q = true ↔ k ∈ n.queue) ∧ (q = false → n.queue.length = 24) := by
  obtain ⟨reps, raised⟩ := Delivery.standing_eq_some.1 stands
  unfold Notices.slotOk at h
  rw [raised] at h
  exact ⟨h.1, h.2.1⟩

end

end Notices

/-- R155 to R158, R166: the invariants of the notice unit. -/
theorem noticesSound_iff {s : State} : s.notices.Sound ↔ AttnInv s ∧ NoticesInv s := by
  constructor
  · intro h
    refine ⟨h.attn, h.room, h.nodup, fun k hk => ?_, (pairwise_iff_dropWhile _ _).1 h.order, h.slotOk⟩
    obtain ⟨info, stands⟩ := (h.queued k).1 hk
    rw [Notices.raisedInfo_eq, stands]; rfl
  · rintro ⟨attn, room, nodup, raised, order, ok⟩
    refine ⟨⟨attn, room, nodup, (pairwise_iff_dropWhile _ _).2 order, fun k => ⟨fun hk => ?_, ?_⟩,
      fun k => Notices.allowed_of_slotOk (ok k)⟩, fun k info waits => ?_⟩
    · have hr := raised k hk
      rw [Notices.raisedInfo_eq, Option.isSome_map] at hr
      obtain ⟨⟨info, q⟩, stands⟩ := Option.isSome_iff_exists.1 hr
      exact ⟨info, by rw [stands, (Notices.slotOk_of_standing (ok k) stands).1.2 hk]⟩
    · rintro ⟨info, stands⟩
      exact (Notices.slotOk_of_standing (ok k) stands).1.1 rfl
    · exact ((Notices.slotOk_of_standing (ok k) waits).2 rfl).ge

namespace Notices

section
variable {n : Notices} {k : Key} {v : Slot} {info : RaiseInfo} {now : Round} {t : Option TrailerNo}
  {w : Option NoticeValue} {reps : Option Nat} {q : Bool} {d : Delivery}

/-! ## A slot put -/

/-- A key whose standing is not that of a queued one is not in the queue. -/
theorem Orderly.out (h : n.Orderly) (stands : ∀ info, n.standing k ≠ some (info, true)) : k ∉ n.queue := fun member =>
  have ⟨info, queued⟩ := (h.queued k).1 member
  stands info queued

/-- A slot put that leaves a queued key where it stands, and queues no other. -/
theorem Orderly.putSlot (h : n.Orderly) (allowed : v.allowed k.kind.isCondition)
    (queued : ∀ info, v.delivery.standing = some (info, true) ↔ n.standing k = some (info, true)) :
    (n.putSlot k v).Orderly where
  attn := h.attn
  room := h.room
  nodup := h.nodup
  order := by
    have high : ∀ j ∈ n.queue, (n.putSlot k v).isHigh j = n.isHigh j := by
      intro j hj
      by_cases hk : j = k
      · obtain ⟨info, stands⟩ := (h.queued j).1 hj
        subst hk
        exact isHigh_congr ((standing_putSlot_same n j v).trans (((queued info).2 stands).trans stands.symm))
      · exact isHigh_congr (standing_putSlot_other n v hk)
    exact h.order.imp_of_mem fun {a b} ha hb => by rw [high a ha, high b hb]; exact id
  queued j := by
    rw [queue_putSlot, h.queued j]
    by_cases hk : j = k
    · subst hk; rw [standing_putSlot_same]; exact exists_congr fun info => (queued info).symm
    · rw [standing_putSlot_other n v hk]
  allowed j := by
    rw [slot_putSlot]; split
    · next hk => rw [hk]; exact allowed
    · exact h.allowed j

/-- A slot put whose key stands as before, or waits for a place in a full queue, or stands nowhere. -/
theorem Sound.putSlot (h : n.Sound) (allowed : v.allowed k.kind.isCondition)
    (queued : ∀ info, v.delivery.standing = some (info, true) ↔ n.standing k = some (info, true))
    (waits : ∀ info, v.delivery.standing = some (info, false) → 24 ≤ n.queue.length) : (n.putSlot k v).Sound := by
  refine ⟨h.toOrderly.putSlot allowed queued, fun j info stands => ?_⟩
  by_cases hk : j = k
  · subst hk; rw [standing_putSlot_same] at stands; exact waits info stands
  · rw [standing_putSlot_other n v hk] at stands; exact h.waits j info stands

/-- A slot put whose key stands as before. -/
theorem Sound.putSlot_standing (h : n.Sound) (allowed : v.allowed k.kind.isCondition)
    (same : v.delivery.standing = n.standing k) : (n.putSlot k v).Sound :=
  h.putSlot allowed (fun info => by rw [same]) fun info stands => h.waits k info (same ▸ stands)

/-- A slot put that is not RAISED, of a key that was not queued. -/
theorem Sound.putSlot_unraised (h : n.Sound) (allowed : v.allowed k.kind.isCondition) (after : v.delivery.standing = none)
    (before : ∀ info, n.standing k ≠ some (info, true)) : (n.putSlot k v).Sound :=
  h.putSlot allowed (fun info => by simp [after, before info]) fun info stands => by rw [after] at stands; cases stands

/-! ## A key that enters, and a key that leaves (R157, R158) -/

/-- R157: a key that is not queued becomes RAISED and enters, while there is a place. -/
theorem Orderly.enter (h : n.Orderly) (place : n.queue.length < 24) (out : k ∉ n.queue)
    (allowed : v.allowed k.kind.isCondition) (raised : v.delivery.standing = some (info, true)) :
    ((n.putSlot k v).enter k).Orderly where
  attn := by
    rw [attn_enter]
    cases queue : ((n.putSlot k v).enter k).queue with
    | nil => have := length_queue_enter (n.putSlot k v) k; rw [queue] at this; cases this
    | cons => rfl
  room := by rw [length_queue_enter]; exact place
  nodup := by
    have perm : ((n.putSlot k v).enter k).queue.Perm (k :: n.queue) := by
      unfold Notices.enter; split
      · have split := List.takeWhile_append_dropWhile (p := (n.putSlot k v).isHigh) (l := n.queue)
        exact List.perm_middle.trans (by rw [queue_putSlot, split])
      · exact List.perm_append_singleton k _
    exact perm.nodup_iff.2 (List.nodup_cons.2 ⟨out, h.nodup⟩)
  order := by
    have others : ∀ j ∈ n.queue, ((n.putSlot k v).enter k).isHigh j = n.isHigh j := fun j hj =>
      isHigh_congr ((standing_enter ..).trans (standing_putSlot_other n v fun e => out (e ▸ hj)))
    have own : ((n.putSlot k v).enter k).isHigh k = (info.cls == .high) :=
      isHigh_of_standing ((standing_enter ..).trans ((standing_putSlot_same n k v).trans raised))
    have queue := congrArg Notices.queue (enter_putSlot_eq raised out ((pairwise_iff_dropWhile _ _).1 h.order))
    have before : n.queue.Pairwise fun a b =>
        ((n.putSlot k v).enter k).isHigh b = true → ((n.putSlot k v).enter k).isHigh a = true :=
      h.order.imp_of_mem fun {a b} ha hb => by rw [others a ha, others b hb]; exact id
    rw [queue]
    dsimp only
    split
    next high =>
      have ahead : ∀ a ∈ n.queue.filter n.isHigh, ((n.putSlot k v).enter k).isHigh a = true := fun a ha => by
        obtain ⟨member, own⟩ := List.mem_filter.1 ha
        rw [others a member, own]
      refine List.pairwise_append.2 ⟨before.filter _, List.pairwise_cons.2 ⟨fun b _ _ => ?_, before.filter _⟩,
        fun a ha b _ _ => ahead a ha⟩
      rw [own, high]; rfl
    next low =>
      refine List.pairwise_append.2 ⟨before, List.pairwise_singleton _ _, fun a _ b hb high => ?_⟩
      rw [List.mem_singleton.1 hb, own, beq_iff_eq] at high
      exact absurd high low
  queued j := by
    rw [mem_queue_enter, standing_enter, queue_putSlot]
    by_cases hk : j = k
    · subst hk; simp [standing_putSlot_same, raised]
    · simp only [hk, false_or, standing_putSlot_other n v hk]; exact h.queued j
  allowed j := by
    rw [slot_enter, slot_putSlot]; split
    · next hk => rw [hk]; exact allowed
    · exact h.allowed j

/-- R157: a queued key's slot is no longer RAISED, and the key leaves. -/
theorem Orderly.leave (h : n.Orderly) (allowed : v.allowed k.kind.isCondition) (after : v.delivery.standing = none) :
    ((n.putSlot k v).setQueue (n.queue.erase k)).Orderly where
  attn := rfl
  room := List.length_erase_le.trans h.room
  nodup := h.nodup.erase k
  order := by
    have others : ∀ j ∈ n.queue.erase k, ((n.putSlot k v).setQueue (n.queue.erase k)).isHigh j = n.isHigh j := fun j hj =>
      isHigh_congr (standing_putSlot_other n v (h.nodup.mem_erase_iff.1 hj).1)
    exact (h.order.sublist List.erase_sublist).imp_of_mem fun {a b} ha hb => by
      rw [others a ha, others b hb]; exact id
  queued j := by
    have stands : ((n.putSlot k v).setQueue (n.queue.erase k)).standing j = (n.putSlot k v).standing j := rfl
    rw [queue_setQueue, h.nodup.mem_erase_iff, stands]
    by_cases hk : j = k
    · subst hk; simp [standing_putSlot_same, after]
    · rw [standing_putSlot_other n v hk, h.queued j]; simp only [hk, ne_eq, not_false_eq_true, true_and]
  allowed j := by
    rw [slot_setQueue, slot_putSlot]; split
    · next hk => rw [hk]; exact allowed
    · exact h.allowed j

/-- R158: one place is free, and is filled if a key waits. -/
theorem Orderly.refill (h : n.Orderly) (place : n.queue.length < 24)
    (waits : ∀ k info, n.standing k = some (info, false) → 23 ≤ n.queue.length) : (n.refill now).Sound := by
  cases first : n.firstWaiting now with
  | none =>
    have none := firstWaiting_eq_none.1 first
    rw [refill_of_none none]
    exact ⟨h, fun k info stands => by
      have := none k
      rw [waitingInfo_eq_some.2 stands] at this; cases this⟩
  | some k =>
    obtain ⟨info, waiting⟩ := waiting_of_firstWaiting first
    rw [waitingInfo_eq_some] at waiting
    obtain ⟨reps, raised, marked⟩ := markQueued_eq waiting
    have refilled : n.refill now = (n.putSlot k { n.slot k with delivery := .raised info reps true }).enter k := by
      rw [Notices.refill, first]; exact congrArg (Notices.enter k) marked
    have allowed : Slot.allowed k.kind.isCondition { n.slot k with delivery := .raised info reps true } := by
      have before := h.allowed k
      rw [Slot.allowed, raised] at before
      exact before
    rw [refilled]
    refine ⟨h.enter place (h.out fun info => by rw [waiting]; simp) allowed rfl, fun _ _ _ => ?_⟩
    rw [length_queue_enter]
    exact Nat.succ_le_succ (waits k info waiting)

/-- R157, R158: a queued key leaves, and its place is filled. -/
theorem Sound.leave (h : n.Sound) (member : k ∈ n.queue) (allowed : v.allowed k.kind.isCondition)
    (after : v.delivery.standing = none) : ((n.putSlot k v).leaveQueue now k).Sound := by
  have one : (n.queue.erase k).length + 1 = n.queue.length := List.length_erase_add_one member
  have room := h.room
  refine (h.toOrderly.leave allowed after).refill (by rw [queue_setQueue]; omega) fun j info stands => ?_
  have before : n.standing j = some (info, false) := by
    by_cases hk : j = k
    · subst hk
      have gone := (standing_putSlot_same n j v).trans after
      exact absurd (gone.symm.trans stands) nofun
    · exact (standing_putSlot_other n v hk).symm.trans stands
  have full := h.waits j info before
  rw [queue_setQueue]; omega

/-! ## Reports (R159 to R161) -/

/-- R157: a slot that is not queued becomes RAISED. -/
theorem Sound.becomeRaised (h : n.Sound) (out : ∀ info, n.standing k ≠ some (info, true))
    (allowed : ∀ info q, Slot.allowed k.kind.isCondition { n.slot k with delivery := .raised info reps q }) :
    (n.becomeRaised now k reps).Sound := by
  rcases Nat.lt_or_ge n.queue.length 24 with place | full
  · rw [becomeRaised_room place]
    refine ⟨h.toOrderly.enter place (h.out out) (allowed _ true) rfl, fun j info stands => ?_⟩
    rw [length_queue_enter]
    rw [standing_enter] at stands
    by_cases hk : j = k
    · subst hk; rw [standing_putSlot_same] at stands; cases stands
    · rw [standing_putSlot_other _ _ hk] at stands
      exact (h.waits j info stands).trans (Nat.le_succ _)
  · rw [becomeRaised_full full]
    exact h.putSlot (allowed _ false) (fun info => ⟨nofun, fun stands => absurd stands (out info)⟩) fun _ _ => full

/-- R159: a raise report of an event. -/
theorem Sound.raise (h : n.Sound) (event : k.kind.isCondition = false) : (n.raise now k t w).Sound := by
  by_cases masked : (n.route k.kind).masked = true
  · rw [raise_masked masked]; exact h
  have allowed := h.allowed k
  rw [Slot.allowed, event] at allowed
  cases d : (n.slot k).delivery with
  | idle =>
    rw [d] at allowed
    have absent : (n.slot k).present = false := allowed.resolve_left nofun
    have nowhere (info : RaiseInfo) : n.standing k ≠ some (info, true) := by rw [standing, d]; nofun
    rw [raise_idle masked d]
    refine Sound.becomeRaised (h.putSlot_standing ?_ rfl) (fun info => ?_) fun info q => ?_
    · rw [Slot.allowed, event, d]; exact .inr absent
    · rw [standing_putSlot_same]; exact nowhere info
    · rw [slot_putSlot_same, event]; exact ⟨absent, 1, rfl, Nat.le_refl 1, by decide⟩
  | raised info reps q =>
    rw [d] at allowed
    obtain ⟨absent, c, rfl, low, high⟩ := allowed
    rw [raise_raised masked d]
    refine h.putSlot_standing ?_ (by rw [standing, d]; rfl)
    rw [Slot.allowed, event]
    exact ⟨absent, _, rfl, Nat.le_min.2 ⟨by decide, by omega⟩, Nat.min_le_left _ _⟩
  | taken info => rw [raise_settled (by rw [d]; nofun) (by rw [d]; rfl)]; exact h
  | acked info => rw [raise_settled (by rw [d]; nofun) (by rw [d]; rfl)]; exact h

/-- R160: a present report of a condition. -/
theorem Sound.present (h : n.Sound) (condition : k.kind.isCondition = true) : (n.present now k t w).Sound := by
  have held : (n.putSlot k { n.slot k with present := true, trailer := t, value := w }).Sound := by
    refine h.putSlot_standing ?_ rfl
    have allowed := h.allowed k
    rw [Slot.allowed, condition] at allowed ⊢
    cases d : (n.slot k).delivery with
    | idle => exact .inl rfl
    | raised info reps q => rw [d] at allowed; exact ⟨rfl, allowed.2⟩
    | taken info => rfl
    | acked info => exact ⟨rfl, rfl⟩
  by_cases idle : (n.slot k).delivery = .idle
  · by_cases masked : (n.route k.kind).masked = true
    · rw [present_masked idle masked]; exact held
    · rw [present_idle idle masked]
      refine held.becomeRaised (fun info => ?_) fun info q => ?_
      · rw [standing_putSlot_same, idle]; nofun
      · rw [slot_putSlot_same, condition]; exact ⟨rfl, rfl⟩
  · rw [present_standing idle]; exact held

/-- R161, R164: a RAISED slot gives way to an IDLE one; its key leaves the queue, or waits no longer. -/
theorem Sound.withdrawn (h : n.Sound) (d : (n.slot k).delivery = .raised info reps q) (idle : v.delivery = .idle)
    (allowed : v.allowed k.kind.isCondition) :
    (if q then (n.putSlot k v).leaveQueue now k else n.putSlot k v).Sound := by
  have after : v.delivery.standing = none := by rw [idle]; rfl
  have stands : n.standing k = some (info, q) := by rw [standing, d]; rfl
  cases q with
  | true => exact h.leave ((h.queued k).2 ⟨info, stands⟩) allowed after
  | false => exact h.putSlot_unraised allowed after fun info => by rw [stands]; simp

/-- R164: withdrawing a slot. -/
theorem Sound.withdraw (h : n.Sound) : (n.withdraw now k).Sound := by
  have allowed (info reps q) (d : (n.slot k).delivery = .raised info reps q) :
      Slot.allowed k.kind.isCondition { n.slot k with delivery := .idle } := by
    have before := h.allowed k
    rw [Slot.allowed, d] at before
    cases c : k.kind.isCondition with
    | true => exact .inl rfl
    | false => rw [c] at before; exact .inr before.1
  cases d : (n.slot k).delivery with
  | raised info reps q =>
    have withdrawn := h.withdrawn (now := now) d rfl (allowed info reps q d)
    cases q with
    | true => rw [withdraw_queued d]; exact withdrawn
    | false => rw [withdraw_waiting d]; exact withdrawn
  | _ => rw [withdraw_standing (by rw [standing, d]; rfl)]; exact h

/-- R161: a cease report. -/
theorem Sound.cease (h : n.Sound) : (n.cease now k).Sound := by
  have allowed := h.allowed k
  unfold Slot.allowed at allowed
  cases d : (n.slot k).delivery with
  | idle =>
    rw [cease_idle d]
    exact h.putSlot_standing (by rw [Slot.allowed, d]; exact .inr rfl) rfl
  | taken info =>
    rw [d] at allowed
    rw [cease_taken d]
    exact h.putSlot_standing (by rw [Slot.allowed, d]; exact allowed) rfl
  | acked info =>
    rw [cease_acked d]
    exact h.putSlot_standing (.inr rfl) (by rw [standing, d]; rfl)
  | raised info reps q =>
    have withdrawn := h.withdrawn (now := now) (v := { n.slot k with present := false, delivery := .idle }) d rfl (.inr rfl)
    cases q with
    | true => rw [cease_queued d]; exact withdrawn
    | false => rw [cease_waiting d]; exact withdrawn

/-! ## The host's commands (R162 to R165) -/

/-- R162: TAKE. -/
theorem Sound.take (h : n.Sound) : (n.take now).1.Sound := by
  unfold Notices.take
  split
  · exact h
  next k rest queue =>
    split
    next info reps q d =>
      have allowed := h.allowed k
      rw [Slot.allowed, d] at allowed
      have member : k ∈ n.queue := by rw [queue]; exact List.mem_cons_self
      refine h.leave member ?_ ?_
      · unfold afterTake
        cases c : k.kind.isCondition with
        | true => exact rfl
        | false => rw [c] at allowed; exact .inr allowed.1
      · unfold afterTake; split <;> rfl
    all_goals exact h

/-- R163: ACK. -/
theorem Sound.ack (h : n.Sound) (k : Key) : (n.ack k).1.Sound := by
  unfold Notices.ack
  split
  next condition =>
    split
    next info d =>
      have nowhere : n.standing k = none := by rw [standing, d]; rfl
      refine h.putSlot_standing ?_ (nowhere ▸ ?_)
      · rw [condition]
        unfold afterAck
        cases present : (n.slot k).present with
        | true => exact ⟨rfl, present⟩
        | false => exact .inl rfl
      · unfold afterAck; split <;> rfl
    all_goals exact h
  · exact h

/-- R165: an IDLE slot whose condition is present is raised. -/
theorem Sound.unmaskKey (h : n.Sound) (condition : k.kind.isCondition = true) : (n.unmaskKey now k).Sound := by
  unfold Notices.unmaskKey
  split
  next d =>
    split
    next present =>
      refine h.becomeRaised (fun info => ?_) fun info q => ?_
      · rw [standing, d]; nofun
      · rw [condition]; exact ⟨present, rfl⟩
    · exact h
  all_goals exact h

/-- Work at key after key. -/
theorem Sound.foldl {work : Notices → Key → Notices} (keys : List Key)
    (keeps : ∀ k ∈ keys, ∀ n : Notices, n.Sound → (work n k).Sound) (h : n.Sound) : (keys.foldl work n).Sound := by
  induction keys generalizing n with
  | nil => exact h
  | cons k rest ih =>
    exact ih (fun j hj => keeps j (List.mem_cons_of_mem k hj)) (keeps k List.mem_cons_self n h)

theorem kind_of_mem_keys {kind : Kind} (h : k ∈ kind.keys) : k.kind = kind := by
  cases kind with
  | bay kind => obtain ⟨b, -, rfl⟩ := List.mem_map.1 h; rfl
  | feederSag => rw [List.mem_singleton.1 h]; rfl

theorem Sound.putRoute (h : n.Sound) (kind : Kind) (r : Route) : (n.putRoute kind r).Sound :=
  ⟨⟨h.attn, h.room, h.nodup, h.order, h.queued, h.allowed⟩, h.waits⟩

/-- R164, R165: ROUTE_SET. -/
theorem Sound.setRoute (h : n.Sound) (kind : Kind) (masked : Bool) (cls : NoticeClass) :
    (n.setRoute now kind masked cls).Sound := by
  have routed := h.putRoute kind { masked := masked, cls := cls }
  unfold Notices.setRoute maskChanged
  split
  next condition =>
    split
    · exact routed.foldl _ fun _ _ _ hn => hn.withdraw
    · exact routed.foldl _ fun k hk _ hn => hn.unmaskKey (by rw [kind_of_mem_keys hk]; exact condition)
    all_goals exact routed
  · exact routed

end

end Notices

end Sys2Proof.Machine

namespace Sys2Proof.Machine

/-! # What the part reports keeps the notice unit sound (O56)

The blocks reach the notice unit by reports alone: an event is raised, a condition is present or ceases. All else that
they do leaves it as it is. -/

/-- R155 to R158, R166: the notice unit is sound. -/
def NoticesSound (s : State) : Prop := s.notices.Sound

section
variable {s t : State}

/-- Work that leaves the notice unit as it is. -/
theorem NoticesSound.same (h : NoticesSound s) (notices : t.notices = s.notices) : NoticesSound t := by
  rw [NoticesSound, notices]; exact h

theorem sound_raiseAt {k : BayKind} (event : k.isCondition = false) (b : Bay) (n : Option TrailerNo)
    (v : Option NoticeValue) : Keeps NoticesSound (raiseAt k b n v) := fun _ hs => Notices.Sound.raise hs event

theorem sound_presentAt {k : BayKind} (condition : k.isCondition = true) (b : Bay) (n : Option TrailerNo)
    (v : Option NoticeValue) : Keeps NoticesSound (presentAt k b n v) := fun _ hs => Notices.Sound.present hs condition

theorem sound_ceaseAt (k : BayKind) (b : Bay) : Keeps NoticesSound (ceaseAt k b) := fun _ hs => Notices.Sound.cease hs

theorem sound_ceaseIf (p : Bool) (k : BayKind) (b : Bay) : Keeps NoticesSound (ceaseIf p k b) := fun s hs => by
  unfold ceaseIf; split
  · exact sound_ceaseAt k b s hs
  · exact hs

/-- R106: a change of presence of a condition. -/
theorem sound_report {k : BayKind} (condition : k.isCondition = true) (before after : Bool) (b : Bay)
    (n : Option TrailerNo) (v : NoticeValue) : Keeps NoticesSound (report before after k b n v) := fun s hs => by
  unfold report; split
  · exact sound_presentAt condition b n _ s hs
  · exact sound_ceaseAt k b s hs
  all_goals exact hs

theorem sound_modParked (b : Bay) (f : Record → Record) : Keeps NoticesSound (State.modParked b f) := fun _ hs =>
  hs.same (State.modParked_notices ..)

/-! ## The defrost cycle (R114 to R121) -/

theorem sound_endHeating (b : Bay) (r : Record) : Keeps NoticesSound (endHeating b r) := fun _ hs =>
  sound_raiseAt rfl b _ _ _ (sound_modParked b _ _ hs)

theorem sound_expireHeating (b : Bay) (r : Record) (n : Nat) : Keeps NoticesSound (expireHeating b r n) := fun s hs =>
  sound_endHeating b _ _ (sound_raiseAt rfl b _ _ s hs)

theorem sound_expireWaiting (b : Bay) (r : Record) : Keeps NoticesSound (expireWaiting b r) := fun s hs =>
  sound_raiseAt rfl b _ _ _ (sound_modParked b _ s hs)

theorem sound_defrostRound (b : Bay) : Keeps NoticesSound (defrostRound b) := by
  intro s hs
  have counted (f : DefrostFigures → DefrostFigures) : NoticesSound (s.modParked b (Record.modDefrost f)) :=
    sound_modParked b _ s hs
  unfold defrostRound; split
  · exact hs
  · split
    · split
      · split
        · exact counted _
        · exact counted _
      · exact hs
    · split
      · split
        · exact sound_expireWaiting b _ s hs
        · exact counted _
      · exact hs
    · split
      · exact sound_expireHeating b _ _ s hs
      · exact counted _
    · split
      · exact counted _
      · exact counted _

/-- A row that is a part of the round start's work at a record (log 8). -/
theorem sound_roundPart {b : Bay} (part : t = s ∨ t = defrostRound b s) (hs : NoticesSound s) : NoticesSound t := by
  rcases part with rfl | rfl
  · exact hs
  · exact sound_defrostRound b s hs

theorem sound_defrostLeavesServing (b : Bay) : Keeps NoticesSound (defrostLeavesServing b) := fun s hs => by
  rw [defrostLeavesServing_frame]; exact hs

/-! ## Bays (R8 to R16, R41 to R52) -/

theorem sound_enterServing (b : Bay) : Keeps NoticesSound (enterServing b) := by
  intro s hs
  cases ovc : s.doors[b].ovc with
  | clear => rw [enterServing_clear ovc]; exact hs
  | tripped => rw [enterServing_tripped ovc]; exact sound_presentAt rfl b _ _ _ hs

theorem sound_clearFault (b : Bay) : Keeps NoticesSound (clearFault b) := fun s hs =>
  sound_enterServing b _ (sound_ceaseAt .overcurrent b s hs)

theorem sound_trip (b : Bay) : Keeps NoticesSound (trip b) := fun _ hs =>
  sound_defrostLeavesServing b _ (sound_presentAt (k := .overcurrent) rfl b _ _ _ hs)

theorem sound_ceaseHeld (b : Bay) : Keeps NoticesSound (ceaseHeld b) := by
  intro s hs
  unfold ceaseHeld; split
  · exact sound_ceaseAt _ b s hs
  all_goals exact hs

/-- R14: the held reasons are conditions. -/
theorem Held.kind_isCondition (h : Held) : h.kind.isCondition = true := by cases h <;> rfl

theorem sound_hold (b : Bay) (h : Held) : Keeps NoticesSound (hold b h) := by
  intro s hs
  unfold hold; split
  · exact hs
  · exact sound_presentAt h.kind_isCondition b _ _ _ (sound_ceaseHeld b s hs)

theorem sound_park (i : SlotIx) (r : Record) (b : Bay) : Keeps NoticesSound (park i r b) := fun s hs =>
  sound_enterServing b _ (sound_raiseAt (k := .parked) rfl b _ _ _ (sound_ceaseHeld b s hs))

theorem sound_matchNumber (b : Bay) (n : TrailerNo) : Keeps NoticesSound (matchNumber b n) := by
  intro s hs
  unfold matchNumber; split
  · split
    · split
      · exact sound_hold b _ s hs
      · exact sound_park _ _ b s hs
      · exact sound_park _ _ b s hs
    · exact hs
  · split
    · exact sound_park _ _ b s hs
    · exact sound_hold b _ s hs

theorem sound_retry (b : Bay) : Keeps NoticesSound (retry b) := by
  intro s hs
  unfold retry; split
  · exact sound_matchNumber b _ s hs
  all_goals exact hs

theorem sound_disable (b : Bay) : Keeps NoticesSound (disable b) := by
  intro s hs
  cases hb : s.bays[b].state with
  | disabled => rw [disable_disabled hb]; exact hs
  | empty => rw [disable_empty hb]; exact hs
  | identifying => rw [disable_identifying hb]; exact hs
  | held x => rw [disable_held hb]; exact sound_ceaseAt _ b s hs
  | serving => rw [disable_serving hb]; exact sound_defrostLeavesServing b _ hs
  | fault => rw [disable_fault hb]; exact sound_ceaseAt _ b s hs

theorem sound_enable (b : Bay) : Keeps NoticesSound (enable b) := by
  intro s hs
  unfold enable; split
  · split
    · exact sound_enterServing b s hs
    · split
      · exact hs
      · exact hs
  all_goals exact hs

theorem sound_connect (b : Bay) : Keeps NoticesSound (connect b) := fun s hs => by rw [connect_frame]; exact hs

theorem sound_depart (b : Bay) : Keeps NoticesSound (depart b) := by
  intro s hs
  rw [NoticesSound, depart_notices]
  split
  · exact Notices.Sound.raise hs rfl
  · exact hs

/-- R52: conditions that cease one after another. -/
theorem Notices.Sound.ceaseEach {n : Notices} (h : n.Sound) (b : Bay) (now : Round) (present : List (Bool × BayKind)) :
    (ceaseEach b now present n).Sound :=
  List.foldlRecOn present _ h fun m hm x _ => by
    split
    · exact hm.cease
    · exact hm

theorem sound_disconnect (b : Bay) : Keeps NoticesSound (disconnect b) := by
  intro s hs
  by_cases hc : s.bays[b].connected = true
  · rw [NoticesSound, disconnect_notices hc]
    exact Notices.Sound.ceaseEach (sound_depart b s hs) b _ _
  · rw [disconnect, if_neg hc]; exact hs

/-! ## Readings and the feeder check (R95 to R112, R131) -/

theorem sound_filteredUpdate (b : Bay) (r : Record) (level : Int) : Keeps NoticesSound (filteredUpdate b r level) :=
  fun s hs => sound_report (k := .fuelDrop) rfl _ _ b _ _ _
    (sound_report (k := .fuelLow) rfl _ _ b _ _ _ (sound_modParked b _ s hs))

theorem sound_fuelResult (b : Bay) (n : Nat) : Keeps NoticesSound (fuelResult b n) := by
  intro s hs
  unfold fuelResult; split
  · exact hs
  next r _ =>
    have sampled := sound_modParked b (Record.sampled n s.timer.number (s.readCurve .fuel r.settings.fuelCurve n)) s hs
    have cleared := sound_ceaseIf s.conditions[b].senderFault .senderFault b _
      (sound_modParked b (fun x => { x with fuel := { x.fuel with errorRun := 0 } }) _ sampled)
    dsimp only
    split
    · split
      · exact cleared
      · exact sound_filteredUpdate b _ _ _ cleared
    · exact sampled

theorem sound_fuelError (b : Bay) (e : ErrorKind) : Keeps NoticesSound (fuelError b e) := by
  intro s hs
  unfold fuelError; split
  · exact hs
  · dsimp only
    split
    · exact sound_report (k := .senderFault) rfl _ _ b _ _ _ (sound_modParked b _ s hs)
    · exact sound_modParked b _ s hs

theorem sound_probeResult (b : Bay) (n : Nat) : Keeps NoticesSound (probeResult b n) := by
  intro s hs
  unfold probeResult; split
  · exact hs
  next r _ =>
    have cleared := sound_ceaseIf s.conditions[b].probeFault .probeFault b _
      (sound_modParked b (fun x => { x with probe := { x.probe with
        lastResistance := some n, errorRun := 0, coil := s.readCurve .probe r.settings.probeCurve n } }) s hs)
    dsimp only
    split
    · split
      · exact sound_endHeating b _ _ cleared
      · exact cleared
    · exact cleared

theorem sound_probeError (b : Bay) (e : ErrorKind) : Keeps NoticesSound (probeError b e) := by
  intro s hs
  unfold probeError; split
  · exact hs
  · dsimp only
    split
    · exact sound_report (k := .probeFault) rfl _ _ b _ _ _ (sound_modParked b _ s hs)
    · exact sound_modParked b _ s hs

theorem sound_deliverReading (ch : Channel) (x : Reading) : Keeps NoticesSound (deliverReading ch x) := by
  intro s hs
  unfold deliverReading; split
  · exact sound_fuelResult ch.bay _ s hs
  · exact sound_fuelError ch.bay _ s hs
  · exact sound_probeResult ch.bay _ s hs
  · exact sound_probeError ch.bay _ s hs

theorem sound_endFuelJudgements (b : Bay) : Keeps NoticesSound (endFuelJudgements b) := fun s hs =>
  sound_ceaseIf _ .fuelDrop b _ (sound_ceaseIf _ .fuelLow b s hs)

theorem shedNewest_notices (s : State) : (shedNewest s).notices = s.notices := by
  unfold shedNewest; split
  · rw [heatingToWaiting_frame]; rfl
  · rfl

theorem sound_checkPoint : Keeps NoticesSound checkPoint := by
  intro s hs
  cases verdict : s.feeder.judge s.outside.fsense with
  | sag =>
    rw [checkPoint_sag verdict, NoticesSound]
    dsimp only
    rw [shedNewest_notices]
    split
    · exact Notices.Sound.present hs rfl
    · exact hs
  | clear =>
    rw [checkPoint_clear verdict, NoticesSound]
    dsimp only
    split
    · exact Notices.Sound.cease hs
    · exact hs

theorem grantWalk_notices (l : List Bay) (s : State) : (grantWalk l s).notices = s.notices := by
  induction l generalizing s with
  | nil => rfl
  | cons b rest ih =>
    unfold grantWalk; split
    · split
      · exact ih s
      · split
        · rw [ih, grantAt, State.setHeat_notices, State.modParked_notices, State.modFeeder_notices]
        · rfl
    · exact ih s

theorem sound_pointWork (p : Point) : Keeps NoticesSound (pointWork p) := by
  intro s hs
  cases p with
  | check => exact sound_checkPoint s hs
  | grant => exact hs.same (grantWalk_notices _ s)
  | sweep => exact hs

/-! ## The door watch (R147 to R150) -/

theorem sound_modFigures (b : Bay) (f : DoorFigures → DoorFigures) : Keeps NoticesSound (modFigures b f) := fun _ hs =>
  sound_modParked b _ _ hs

theorem sound_guardEvent (asked : Bool) (b : Bay) : Keeps NoticesSound (guardEvent asked b) := by
  intro s hs
  unfold guardEvent; split
  · exact sound_raiseAt rfl b _ _ s hs
  · exact hs

theorem sound_acceptOpen (b : Bay) : Keeps NoticesSound (acceptOpen b) := by
  intro s hs
  unfold acceptOpen; split
  · exact sound_guardEvent _ b _ (sound_modFigures b _ _ hs)
  · exact sound_modFigures b _ s hs
  · exact hs

theorem sound_acceptShut (b : Bay) : Keeps NoticesSound (acceptShut b) := by
  intro s hs
  have shut := sound_modFigures b (fun f => { f with state := .shut, lastChange := some s.timer.number })
    (s.modDoor b fun d => { d with settle := s.settleRounds }) hs
  unfold acceptShut; dsimp only
  split
  · exact sound_guardEvent _ b _ (sound_ceaseIf _ .doorLong b _ shut)
  · exact shut
  · exact hs

theorem sound_acceptDoor (b : Bay) (closed : Bool) : Keeps NoticesSound (acceptDoor b closed) := by
  intro s hs
  unfold acceptDoor; dsimp only
  split
  · exact sound_acceptShut b _ hs
  · exact sound_acceptOpen b _ hs

theorem sound_judgeDoorLong (b : Bay) : Keeps NoticesSound (judgeDoorLong b) := by
  intro s hs
  unfold judgeDoorLong; dsimp only
  split
  · exact sound_presentAt rfl b _ _ _ hs
  · exact sound_ceaseAt .doorLong b _ hs
  all_goals exact hs

theorem sound_doorRound (b : Bay) : Keeps NoticesSound (doorRound b) := by
  intro s hs
  unfold doorRound; split
  · refine sound_judgeDoorLong b _ ?_
    rw [doorCounts_frame]; exact hs
  · exact hs

theorem sound_bayRound (b : Bay) : Keeps NoticesSound (bayRound b) := by
  intro s hs
  have channels : NoticesSound (channelRound b s) := by rw [channelRound_frame]; exact hs
  exact sound_doorRound b _ (sound_retry b _ (sound_defrostRound b _ channels))

/-! ## The tag reader (R12, R13, R63) -/

theorem sound_deliverOutcome (o : Option TrailerNo) : Keeps NoticesSound (deliverOutcome o) := by
  intro s hs
  unfold deliverOutcome; split
  · exact hs
  · dsimp only
    split
    · exact sound_matchNumber _ _ _ hs
    · exact sound_hold _ _ _ hs

theorem sound_attemptFails (n start : Nat) : Keeps NoticesSound (attemptFails n start) := by
  intro s hs
  unfold attemptFails; split
  · exact sound_deliverOutcome none s hs
  · exact hs

theorem sound_presenceWindowClose : Keeps NoticesSound presenceWindowClose := by
  intro s hs
  have line : NoticesSound (bringHeadLine true s) := by rw [bringHeadLine_frame]; exact hs
  unfold presenceWindowClose; split
  · exact sound_attemptFails _ _ _ line
  all_goals exact hs

theorem sound_attemptJudged : Keeps NoticesSound attemptJudged := by
  intro s hs
  unfold attemptJudged; split
  · split
    · exact hs
    · split
      · exact sound_deliverOutcome _ s hs
      · exact sound_attemptFails _ _ _ hs
  all_goals exact hs

/-! ## The lines of a bay (R37, R144 to R147) -/

theorem sound_acceptOvc (b : Bay) (closed : Bool) : Keeps NoticesSound (acceptOvc b closed) := by
  intro s hs
  unfold acceptOvc; dsimp only
  split
  · exact sound_trip b _ hs
  · exact hs

theorem sound_senseAcceptance (b : Bay) (level : Bool) : Keeps NoticesSound (senseAcceptance b level) := by
  intro s hs
  unfold senseAcceptance; split
  · exact hs
  · dsimp only
    split
    · exact sound_connect b _ hs
    · exact sound_disconnect b _ hs

theorem sound_doorAcceptance (b : Bay) (closed : Bool) : Keeps NoticesSound (doorAcceptance b closed) := by
  intro s hs
  unfold doorAcceptance; split
  · exact sound_acceptDoor b closed _ hs
  · exact hs

theorem sound_runAcceptance (b : Bay) (active : Bool) : Keeps NoticesSound (runAcceptance b active) := by
  intro s hs
  unfold runAcceptance; split <;> exact hs

theorem sound_overcurrentAcceptance (b : Bay) (closed : Bool) : Keeps NoticesSound (overcurrentAcceptance b closed) := by
  intro s hs
  unfold overcurrentAcceptance; split
  · exact sound_acceptOvc b closed _ hs
  · exact hs

theorem sound_senseSample (b : Bay) (level : Bool) : Keeps NoticesSound (senseSample b level) := by
  intro s hs
  unfold senseSample; split
  · exact hs
  · split
    · split
      · exact sound_connect b s hs
      · exact sound_disconnect b s hs
    · exact hs

theorem sound_watchedSamples (b : Bay) (x : LineSample) : Keeps NoticesSound (watchedSamples b x) := by
  have door : Keeps NoticesSound (doorSample b x.door) := fun s hs => by
    unfold doorSample; dsimp only
    split
    · exact sound_acceptDoor b _ s hs
    · exact hs
  have run : Keeps NoticesSound (runSample b x.run) := fun s hs => by
    unfold runSample; dsimp only
    split <;> exact hs
  have ovc : Keeps NoticesSound (ovcSample b x.ovc) := fun s hs => by
    unfold ovcSample; dsimp only
    split
    · exact sound_acceptOvc b _ s hs
    · exact hs
  intro s hs
  unfold watchedSamples; split
  · exact ovc _ (run _ (door s hs))
  · exact hs

theorem sound_bayTick (samples : Vector LineSample 16) (b : Bay) : Keeps NoticesSound (bayTick samples b) := by
  intro s hs
  unfold bayTick; dsimp only
  split
  · split
    · exact sound_watchedSamples b _ _ (sound_senseSample b _ s hs)
    · exact sound_senseSample b _ s hs
  · exact sound_senseSample b _ _ (sound_watchedSamples b _ s hs)

end

end Sys2Proof.Machine

namespace Sys2Proof.Machine

/-! # The requests keep the notice unit sound (O56) -/

section
variable {s : State}

theorem sound_storeCurve (c : Fin 8) (v : Option Curve) : Keeps NoticesSound (storeCurve c v) := fun _ hs =>
  Keeps.forBays sound_endFuelJudgements _ _ hs

theorem sound_book (n : TrailerNo) (a : SettingsArg) (hs : NoticesSound s) : NoticesSound (book n a s).1 := by
  unfold book; split
  · exact hs
  · split
    · exact hs
    · split <;> exact hs

theorem sound_amend (n : TrailerNo) (a : SettingsArg) (hs : NoticesSound s) : NoticesSound (amend n a s).1 := by
  unfold amend; split
  · exact hs
  · refine onNamed_keeps hs fun i r _ _ => ?_
    dsimp only
    split
    · split
      · exact hs
      · exact sound_endFuelJudgements _ _ hs
    · exact hs

theorem sound_retire (n : TrailerNo) (hs : NoticesSound s) : NoticesSound (retire n s).1 :=
  onNamed_keeps hs fun i r _ _ => by split <;> exact hs

theorem sound_assign (c : Byte) (n : TrailerNo) (hs : NoticesSound s) : NoticesSound (assign c n s).1 := by
  refine onBay_keeps hs fun b => ?_
  split
  · exact hs
  · unfold assignAt; split
    · split
      · split
        · exact hs
        · exact sound_park _ _ b s hs
      · split
        · exact sound_park _ _ b s hs
        · exact hs
    · exact hs

theorem sound_rebase (n : TrailerNo) (hs : NoticesSound s) : NoticesSound (rebase n s).1 := by
  refine onNamed_keeps hs fun i r _ _ => ?_
  dsimp only
  split
  · split
    · exact sound_ceaseIf _ .fuelDrop _ _ hs
    · exact hs
  · exact hs

theorem sound_defrostNow (n : TrailerNo) (hs : NoticesSound s) : NoticesSound (defrostNow n s).1 := by
  refine onNamed_keeps hs fun i r _ _ => ?_
  split
  · split <;> exact hs
  · exact hs

theorem sound_defrostStop (n : TrailerNo) (hs : NoticesSound s) : NoticesSound (defrostStop n s).1 := by
  refine onNamed_keeps hs fun i r _ _ => ?_
  split
  · exact hs
  · exact hs
  · split
    · exact sound_endHeating _ r s hs
    · exact hs
  · exact hs

theorem sound_commandClearFault (c : Byte) (hs : NoticesSound s) : NoticesSound (commandClearFault c s).1 := by
  refine onBay_keeps hs fun b => ?_
  split
  · split
    · exact sound_clearFault b s hs
    · exact hs
  · exact hs

theorem sound_spot (c k : Byte) (hs : NoticesSound s) : NoticesSound (spot c k s).1 := by
  refine onBay_keeps hs fun b => ?_
  split
  · exact hs
  · dsimp only
    split
    · exact hs
    · split
      · exact hs
      · split <;> exact hs

theorem sound_curveWrite (c k n : Byte) (pts : List (Word × Half)) (hs : NoticesSound s) :
    NoticesSound (curveWrite c k n pts s).1 := by
  unfold curveWrite; split
  · exact hs
  · split
    · dsimp only
      split
      · exact sound_storeCurve _ _ s hs
      · exact hs
    · exact hs

theorem sound_curveClear (c : Byte) (hs : NoticesSound s) : NoticesSound (curveClear c s).1 := by
  unfold curveClear; split
  · exact hs
  · split
    · exact hs
    · exact sound_storeCurve _ _ s hs

theorem sound_storeSetting {x : Setting} {v : Nat} {t : State} (stored : storeSetting x v s = some t)
    (hs : NoticesSound s) : NoticesSound t := by
  cases x <;> simp only [storeSetting, Option.some.injEq, Option.map_eq_some_iff, reduceCtorEq] at stored
  case feederUnits =>
    subst stored
    exact Keeps.forBays (fun b t ht => by rw [heatingToWaiting_frame]; exact ht) _ (s.modFeeder (Feeder.setUnits _)) hs
  case guard => obtain ⟨g, -, rfl⟩ := stored; exact hs
  all_goals subst stored; exact hs

theorem sound_set (c : Byte) (v : Word) (hs : NoticesSound s) : NoticesSound (set c v s).1 := by
  unfold set; split
  · unfold setNamed; split
    next stored => exact sound_storeSetting stored hs
    · exact hs
  · exact hs

theorem sound_routeSet (k m c : Byte) (hs : NoticesSound s) : NoticesSound (routeSet k m c s).1 := by
  unfold routeSet; split
  · exact Notices.Sound.setRoute hs _ _ _
  · exact hs

theorem sound_ack (k p : Byte) (hs : NoticesSound s) : NoticesSound (ack k p s).1 := by
  unfold ack; split
  · exact hs
  · exact Notices.Sound.ack hs _

/-- R172: every request keeps the notice unit sound. -/
theorem sound_runRequest (r : Request) : Keeps NoticesSound fun s => (runRequest r s).1 := by
  intro s hs
  cases r with
  | book n a => exact sound_book n a hs
  | amend n a => exact sound_amend n a hs
  | retire n => exact sound_retire n hs
  | lookup sel op =>
    simp only [runRequest, lookup]
    split
    · exact onNamed_keeps hs fun _ _ _ _ => hs
    all_goals exact hs
  | list st => simp only [runRequest, list]; split <;> exact hs
  | assign b n => exact sound_assign b n hs
  | rebase n => exact sound_rebase n hs
  | defrostNow n => exact sound_defrostNow n hs
  | defrostStop n => exact sound_defrostStop n hs
  | bayStatus b => exact onBay_keeps hs fun _ => hs
  | bayEnable b => exact onBay_keeps hs fun b => sound_enable b s hs
  | bayDisable b => exact onBay_keeps hs fun b => sound_disable b s hs
  | clearFault b => exact sound_commandClearFault b hs
  | spot b k => exact sound_spot b k hs
  | curveWrite c k n pts => exact sound_curveWrite c k n pts hs
  | curveRead c => simp only [runRequest, curveRead]; split <;> exact hs
  | curveClear c => exact sound_curveClear c hs
  | set x v => exact sound_set x v hs
  | get x => simp only [runRequest, get]; split <;> exact hs
  | routeSet k m c => exact sound_routeSet k m c hs
  | routeRead k => simp only [runRequest, routeRead]; split <;> exact hs
  | take => exact Notices.Sound.take hs
  | ack k p => exact sound_ack k p hs
  | reset => exact hs

end

/-! # Every step keeps the delivery queue, the slots and ATTN in order (O56) -/

theorem noticesSound_keptByRows : KeptByRows NoticesSound where
  queue _ _ hs := hs
  link _ _ hs := hs
  timer _ _ hs := hs
  outside _ _ hs := hs
  converter _ _ hs := hs
  request := sound_runRequest
  beginReset _ _ := noticesSound_iff.2 ⟨rfl, noticesInv_reset⟩
  resetOver _ _ hs := hs
  openRound _ hs := hs
  bayRound := sound_bayRound
  pointWork := sound_pointWork
  intervalExpiry b s := sound_roundPart (intervalExpiryAt_eq b s)
  expiryInWaiting b s := sound_roundPart (expiryInWaitingAt_eq b s)
  endByMaximum b s := sound_roundPart (endByMaximumAt_eq b s)
  dripEnd b s := sound_roundPart (dripEndAt_eq b s)
  deliverReading := sound_deliverReading
  wakeEnd _ hs := hs
  presenceSeen s hs := by rw [presenceSeen_frame]; exact hs
  presenceWindowClose := sound_presenceWindowClose
  attemptJudged := sound_attemptJudged
  spacingEnd _ hs := hs
  bitSlotSample high s hs := by rw [bitSlotSample_frame]; exact hs
  senseAcceptance := sound_senseAcceptance
  doorAcceptance := sound_doorAcceptance
  runAcceptance := sound_runAcceptance
  overcurrentAcceptance := sound_overcurrentAcceptance
  powerGoodWaitEnd b s hs := by unfold powerGoodWaitEnd; split <;> exact hs
  bayTick := sound_bayTick
  microsecond s hs := by unfold microsecond; dsimp only; split <;> exact hs

/-- Settles O56: the work of every row reaches the notice unit by reports and the host's commands, which keep it sound. -/
theorem stepKeepsTheDeliveryQueue : Obligations.StepKeepsTheDeliveryQueue := fun _ _ attn notices ht =>
  noticesSound_iff.1 (noticesSound_keptByRows.step (noticesSound_iff.2 ⟨attn, notices⟩) ht)

end Sys2Proof.Machine

namespace Sys2Proof.Machine

/-! # TAKE, ACK and ROUTE_SET (O48 to O50) -/

/-! ## Kinds, keys and routes by their codes (Tables 49 and 57) -/

theorem bayKinds_index (i : Fin 15) : bayKinds[i].index = i := by revert i; decide

/-- Table 49: the kind of a number. -/
theorem kindOf_eq_some {c : Byte} {k : Kind} : kindOf c = some k ↔ k.index.val + 1 = c.toNat := by
  constructor
  · intro h
    unfold kindOf at h
    split at h
    · cases h
    next sixteen => cases h; exact sixteen.symm
    next n _ number =>
      obtain ⟨kind, at', rfl⟩ := Option.map_eq_some_iff.1 h
      obtain ⟨lt, rfl⟩ := List.getElem?_eq_some_iff.1 at'
      rw [number]
      exact congrArg (·.val + 1) (bayKinds_index ⟨n, lt⟩)
  · intro h
    unfold kindOf
    rw [← h]
    cases k with
    | feederSag => rfl
    | bay kind => cases kind <;> rfl

theorem bayOf_eq_some {p : Byte} {b : Bay} : bayOf p = some b ↔ b.val = p.toNat := by
  refine ⟨fun h => ?_, fun h => bayOf_eq h.symm⟩
  unfold bayOf at h
  split at h
  · cases h; rfl
  · cases h

/-- R155, Table 57: the key of a kind and a position. -/
theorem keyOf_eq_some {c p : Byte} {k : Key} :
    keyOf c p = some k ↔ k.kind.index.val + 1 = c.toNat ∧ k.position = p.toNat := by
  rw [← kindOf_eq_some]
  unfold keyOf
  cases kind : kindOf c with
  | none => simp
  | some named =>
    cases named with
    | feederSag =>
      have row : (16 : Nat) = p.toNat ↔ p = 16 := ⟨fun h => BitVec.eq_of_toNat_eq h.symm, fun h => by rw [h]; rfl⟩
      cases k with
      | feederSag => simp [Key.kind, Key.position, row]
      | bay l b => simp [Key.kind]
    | bay l =>
      cases k with
      | feederSag => simp [Key.kind]
      | bay m b => simp [Key.kind, Key.position, bayOf_eq_some, and_comm]

theorem keyOf_eq_none {c p : Byte} (h : ∀ k : Key, k.kind.index.val + 1 = c.toNat → k.position ≠ p.toNat) :
    keyOf c p = none :=
  Option.eq_none_iff_forall_ne_some.2 fun k named =>
    have ⟨kind, position⟩ := keyOf_eq_some.1 named
    h k kind position

theorem byte_le_one {m : Byte} (h : m.toNat ≤ 1) : m = 0 ∨ m = 1 := by
  rcases Nat.le_one_iff_eq_zero_or_eq_one.1 h with zero | one
  · exact .inl (BitVec.eq_of_toNat_eq zero)
  · exact .inr (BitVec.eq_of_toNat_eq one)

theorem maskOf_eq {m : Byte} (h : m.toNat ≤ 1) : maskOf m = some (decide (m = 1)) := by
  rcases byte_le_one h with rfl | rfl <;> rfl

theorem noticeClassOf_eq {l : Byte} (h : l.toNat ≤ 1) : noticeClassOf l = some (if l = 1 then .high else .low) := by
  rcases byte_le_one h with rfl | rfl <;> rfl

theorem maskOf_eq_none {m : Byte} (h : 1 < m.toNat) : maskOf m = none := by
  unfold maskOf; split
  · omega
  · omega
  · rfl

theorem noticeClassOf_eq_none {l : Byte} (h : 1 < l.toNat) : noticeClassOf l = none := by
  unfold noticeClassOf; split
  · omega
  · omega
  · rfl

/-! ## TAKE (R162) -/

theorem optional_eq_getD {α : Type} (zero : List Byte) (f : α → List Byte) (o : Option α) :
    optional zero f o = (o.map f).getD zero := by
  cases o <;> rfl

/-- Table 59. -/
theorem noticeBytes_eq (k : Key) (info : RaiseInfo) (x : Slot) (repeats remaining : Nat) :
    noticeBytes k info x repeats remaining =
      [BitVec.ofNat 8 (k.kind.index.val + 1), BitVec.ofNat 8 k.position, if info.cls = NoticeClass.high then 1 else 0,
          (if x.trailer.isSome then 1 else 0) + (if x.value.isSome then 2 else 0)]
        ++ (x.trailer.map wordBytes).getD [0, 0, 0, 0] ++ (x.value.map NoticeValue.bytes).getD [0, 0, 0, 0]
        ++ halfBytes info.round ++ [BitVec.ofNat 8 repeats, BitVec.ofNat 8 remaining] := by
  have cls : byteNat info.cls.code = [if info.cls = NoticeClass.high then 1 else 0] := by cases info.cls <;> rfl
  have present : presence [x.trailer.isSome, x.value.isSome] =
      [(if x.trailer.isSome then 1 else 0) + (if x.value.isSome then 2 else 0)] := by
    cases x.trailer.isSome <;> cases x.value.isSome <;> rfl
  rw [noticeBytes, cls, present, optional_eq_getD, optional_eq_getD]
  simp only [byteNat, Kind.number, List.append_assoc, List.cons_append, List.nil_append]

namespace Notices

section
variable {n : Notices} {now : Round} {k : Key} {info : RaiseInfo} {reps : Option Nat} {q : Bool}

theorem take_empty (h : n.queue = []) : n.take now = (n, refusal .empty) := by rw [take, h]

/-- R162: the head leaves the queue, which the waiting keys fill behind it. -/
theorem takeHead_eq {rest : List Key} (h : n.queue = k :: rest) : n.takeHead now k info =
    ((n.putSlot k { n.slot k with delivery := if k.kind.isCondition then .taken info else .idle }).setQueue rest).refill
      now := by
  rw [takeHead, leaveQueue, queue_putSlot, h, List.erase_cons_head]; rfl

theorem take_head {rest : List Key} (h : n.queue = k :: rest) (raised : (n.slot k).delivery = .raised info reps q) :
    n.take now = (n.takeHead now k info,
      okay (noticeBytes k info (n.slot k) (reps.getD 1) (n.takeHead now k info).queue.length)) := by
  simp only [take, h, raised]

/-! ## ACK (R163) -/

theorem ack_event (h : k.kind.isCondition = false) : n.ack k = (n, refusal .wrongState) := by
  simp only [ack, h, Bool.false_eq_true, if_false]

theorem ack_untaken (h : ∀ info, (n.slot k).delivery ≠ .taken info) : n.ack k = (n, refusal .wrongState) := by
  unfold ack
  split
  · split
    next info taken => exact absurd taken (h info)
    all_goals rfl
  · rfl

theorem ack_taken (condition : k.kind.isCondition = true) (taken : (n.slot k).delivery = .taken info) : n.ack k =
    (n.putSlot k { n.slot k with delivery := if (n.slot k).present then .acked info else .idle },
      okay [if (n.slot k).present then 3 else 0]) := by
  simp only [ack, condition, taken, if_true, afterAck]
  cases (n.slot k).present <;> rfl

/-! ## Routes (R164, R165) -/

theorem routes_unmaskKey (now : Round) (k : Key) (n : Notices) : (n.unmaskKey now k).routes = n.routes := by
  unfold unmaskKey; split
  · split
    · rw [routes_becomeRaised]
    · rfl
  all_goals rfl

theorem routes_foldl {work : Notices → Key → Notices} (h : ∀ n k, (work n k).routes = n.routes) (keys : List Key)
    (n : Notices) : (keys.foldl work n).routes = n.routes :=
  List.foldlRecOn (motive := fun m => m.routes = n.routes) keys work rfl fun m hm k _ => (h m k).trans hm

variable {kind : Kind} {cls : NoticeClass}

/-- R164: what a masking withdraws and an unmasking raises changes no route. -/
theorem route_setRoute (now : Round) (kind : Kind) (masked : Bool) (cls : NoticeClass) (n : Notices) :
    (n.setRoute now kind masked cls).route kind = { masked := masked, cls := cls } := by
  have routes : (n.setRoute now kind masked cls).routes = (n.putRoute kind { masked := masked, cls := cls }).routes := by
    unfold setRoute maskChanged
    split
    · split
      · exact routes_foldl (fun n k => routes_withdraw now k n) _ _
      · exact routes_foldl (fun n k => routes_unmaskKey now k n) _ _
      all_goals rfl
    · rfl
  rw [route, routes]
  exact route_putRoute_same n kind _

theorem setRoute_masking (was : (n.route kind).masked = false) (condition : kind.isCondition = true) :
    n.setRoute now kind true cls =
      kind.keys.foldl (fun m j => m.withdraw now j) (n.putRoute kind { masked := true, cls := cls }) := by
  simp only [setRoute, maskChanged, was, condition, if_true]

theorem setRoute_unmasking (was : (n.route kind).masked = true) (condition : kind.isCondition = true) :
    n.setRoute now kind false cls =
      kind.keys.foldl (fun m j => m.unmaskKey now j) (n.putRoute kind { masked := false, cls := cls }) := by
  simp only [setRoute, maskChanged, was, condition, if_true]

theorem setRoute_stores {masked : Bool} (h : (n.route kind).masked = masked ∨ kind.isCondition = false) :
    n.setRoute now kind masked cls = n.putRoute kind { masked := masked, cls := cls } := by
  unfold setRoute maskChanged
  rcases h with same | event
  · rw [same]; split
    · cases masked <;> rfl
    · rfl
  · simp only [event, Bool.false_eq_true, if_false]

theorem unmaskKey_eq (now : Round) (k : Key) (n : Notices) : n.unmaskKey now k =
    if (n.slot k).delivery = .idle ∧ (n.slot k).present = true then n.becomeRaised now k none else n := by
  unfold unmaskKey
  split <;> simp [*]

end

end Notices

/-- Settles O48: an empty queue, and a head whose slot is RAISED. -/
theorem takeDeliversTheHead : Obligations.TakeDeliversTheHead := by
  refine fun s ready => ⟨fun empty => exec_answers rfl ready ?_, fun k rest info reps q queue raised => ?_⟩
  · show take s = _
    rw [take, Notices.take_empty empty]
  · dsimp only
    rw [← Notices.takeHead_eq (info := info) queue]
    refine exec_answers rfl ready ?_
    show take s = _
    rw [take, Notices.take_head queue raised, noticeBytes_eq]

/-- Settles O49: the checks in their order, the slot settled, and an ACKED slot under the reports. -/
theorem ackSettlesATakenCondition : Obligations.AckSettlesATakenCondition := by
  intro s c p ready wrong
  refine ⟨fun k kind position => ?_, fun unknown => exec_answers rfl ready ?_, fun n now k info acked =>
    ⟨Notices.cease_acked acked, fun trailer value => ?_⟩⟩
  · have named : ack c p s = ({ s with notices := (s.notices.ack k).1 }, (s.notices.ack k).2) := by
      rw [ack, keyOf_eq_some.2 ⟨kind, position⟩]
    refine ⟨fun event => exec_answers rfl ready ?_, fun _ untaken => exec_answers rfl ready ?_,
      fun info condition taken => exec_answers rfl ready ?_⟩
    · exact named.trans (by rw [Notices.ack_event event])
    · exact named.trans (by rw [Notices.ack_untaken untaken])
    · exact named.trans (by rw [Notices.ack_taken condition taken])
  · show ack c p s = _
    rw [ack, keyOf_eq_none unknown]
  · rw [Notices.present_standing (by rw [acked]; nofun), Notices.slot_putSlot_same]
    exact acked

section
variable {s : State} {c m l : Byte}

theorem routeSet_malformed (h : c = 0 ∨ 16 < c.toNat ∨ 1 < m.toNat ∨ 1 < l.toNat) :
    routeSet c m l s = (s, refusal .badValue) := by
  unfold routeSet
  split
  next k masked cls kind mask noticeClass =>
    exfalso
    rcases h with zero | wide | wide | wide
    · rw [kindOf_eq_none (.inl zero)] at kind; cases kind
    · rw [kindOf_eq_none (.inr wide)] at kind; cases kind
    · rw [maskOf_eq_none wide] at mask; cases mask
    · rw [noticeClassOf_eq_none wide] at noticeClass; cases noticeClass
  · rfl

/-- R164: a route stored is echoed. -/
theorem routeSet_stored {k : Kind} (hc : k.index.val + 1 = c.toNat) (hm : m.toNat ≤ 1) (hl : l.toNat ≤ 1) :
    routeSet c m l s = (s.modNotices (Notices.setRoute s.timer.number k (decide (m = 1)) (if l = 1 then .high else .low)),
      okay [c, m, l]) := by
  have echo : (s.notices.setRoute s.timer.number k (decide (m = 1)) (if l = 1 then .high else .low)).routeBytes k =
      [c, m, l] := by
    rw [routeBytes_eq, Notices.route_setRoute, hc, BitVec.ofNat_toNat, BitVec.setWidth_eq]
    rcases byte_le_one hm with rfl | rfl <;> rcases byte_le_one hl with rfl | rfl <;> rfl
  rw [routeSet, kindOf_eq_some.2 hc, maskOf_eq hm, noticeClassOf_eq hl]
  dsimp only
  rw [State.modNotices_notices, echo]

end

/-- Settles O50: the codes, then a route kept, a masking and an unmasking. -/
theorem routeSetStoresAndActs : Obligations.RouteSetStoresAndActs := by
  refine fun s c m l ready => ⟨fun bad => exec_answers rfl ready (routeSet_malformed bad), fun k hc hm hl => ?_⟩
  intro now routed was answers
  have answer {n : Notices} (h : s.notices.setRoute now k (decide (m = 1)) (if l = 1 then .high else .low) = n) :
      answers n := exec_answers rfl ready ((routeSet_stored hc hm hl).trans (by rw [← h]; rfl))
  refine ⟨fun kept => answer (Notices.setRoute_stores kept), fun unmasked one condition => answer ?_,
    fun masked zero condition => answer ?_⟩
  · subst one
    refine (Notices.setRoute_masking unmasked condition).trans (List.foldl_ext _ _ _ fun n j _ => ?_)
    split
    next raised => exact Notices.withdraw_queued raised
    next raised => exact Notices.withdraw_waiting raised
    next queued waiting =>
      refine Notices.withdraw_standing (Option.eq_none_iff_forall_ne_some.2 fun ⟨info, q⟩ stands => ?_)
      obtain ⟨reps, raised⟩ := Delivery.standing_eq_some.1 stands
      cases q with
      | true => exact queued info reps raised
      | false => exact waiting info reps raised
  · subst zero
    exact (Notices.setRoute_unmasking masked condition).trans
      (List.foldl_ext _ _ _ fun n j _ => Notices.unmaskKey_eq now j n)

end Sys2Proof.Machine

namespace Sys2Proof.Machine

/-! # The host link (O5, O7 to O9) -/

/-! ## What an accepted frame meets (R171) -/

section
variable {s : State} {p q f : List Byte}

theorem meetFrame_idle (h : s.link.transmitter = .idle) (taken : State → State) : meetFrame p taken s = taken s := by
  simp only [meetFrame, h]

theorem meetFrame_held (h : s.link.transmitter = .sending f) (empty : s.link.buffer = none) (taken : State → State) :
    meetFrame p taken s = { s with link := { s.link with buffer := some p } } := by
  simp only [meetFrame, h, empty, State.modLink]

theorem meetFrame_discarded (h : s.link.transmitter = .sending f) (full : s.link.buffer = some q)
    (taken : State → State) : meetFrame p taken s = s := by
  simp only [meetFrame, h, full]

/-- R172: a payload read as a request is carried out and answered. -/
theorem takePayload_request {r : Request} (h : parse p = .request r) (s : State) :
    takePayload p s = (runRequest r s).1.answering r (runRequest r s).2 := by
  simp only [takePayload, h, takeRequest_eq]

/-- R172: a first byte of no command is answered UNKNOWN_COMMAND. -/
theorem takePayload_unknownCommand {code : Byte} (h : parse p = .unknownCommand code) (s : State) :
    takePayload p s =
      { s with link := { s.link with transmitter := .sending (frameOf [code, 2]), resetArmed := false } } := by
  simp only [takePayload, h]; rfl

/-- R172: operands of no request are answered BAD_LENGTH. -/
theorem takePayload_badLength {code : Byte} (h : parse p = .badLength code) (s : State) :
    takePayload p s =
      { s with link := { s.link with transmitter := .sending (frameOf [code, 3]), resetArmed := false } } := by
  simp only [takePayload, h]; rfl

/-- R170: a frame whose CHECK matches is accepted. -/
theorem completeFrame_accepted (p : List Byte) (s : State) : completeFrame p (checkOf p) s = acceptFrame p s := if_pos rfl

/-- R170: a frame whose CHECK differs is discarded. -/
theorem completeFrame_discarded {check : Half} (h : checkOf p ≠ check) (s : State) : completeFrame p check s = s := if_neg h

end

/-- Settles O5: a host command row is its request's frame, and meets the transmitter and the buffer. -/
theorem hostCommandsMeetTheLink : Obligations.HostCommandsMeetTheLink := by
  intro c r s row running
  rw [exec_of_requestOf row, whenRunning_of_none running]
  exact ⟨fun idle => congrArg _ (meetFrame_idle idle _), fun f sending empty => congrArg _ (meetFrame_held sending empty _),
    fun f p sending full => congrArg _ (meetFrame_discarded sending full _)⟩

/-! ## The end of an answer (R171, R174) -/

section
variable {s : State} {f : List Byte}

theorem Link.free_of_empty {l : Link} (h : l.buffer = none) : l.free = { l with transmitter := .idle } := by
  rw [Link.free, ← h]

/-- R171: an answer ends with no frame held. -/
theorem answerSent_empty (sending : s.link.transmitter = .sending f) (unarmed : s.link.resetArmed = false)
    (empty : s.link.buffer = none) : answerSent s = { s with link := { s.link with transmitter := .idle } } := by
  simp only [answerSent, sending, unarmed, empty, Bool.false_eq_true, if_false, State.modLink, Link.free_of_empty empty]

/-- R171: an answer ends with a frame held. -/
theorem answerSent_held {p : List Byte} (sending : s.link.transmitter = .sending f) (unarmed : s.link.resetArmed = false)
    (full : s.link.buffer = some p) :
    answerSent s = takePayload p { s with link := { s.link with transmitter := .idle, buffer := none } } := by
  simp only [answerSent, sending, unarmed, full, Bool.false_eq_true, if_false, State.modLink, Link.free]

/-- R174: the answer of RESET ends. -/
theorem answerSent_armed (sending : s.link.transmitter = .sending f) (armed : s.link.resetArmed = true) :
    answerSent s = beginReset .command s := by
  simp only [answerSent, sending, armed, if_true]

/-- R174: the row of the command reset is the end of RESET's answer. -/
theorem commandReset_armed (sending : s.link.transmitter = .sending f) (armed : s.link.resetArmed = true) :
    commandReset s = beginReset .command s := by
  simp only [commandReset, sending, armed, if_true]

end

/-- Settles O9: the end of an answer with the buffer empty, with it full, and behind RESET; and RESET's own answer. -/
theorem answerEndTakesTheHeldFrame : Obligations.AnswerEndTakesTheHeldFrame := by
  intro s running
  have sent : exec .answerSent s = .next (answerSent s) := whenRunning_of_none running _
  have reset : exec .commandReset s = .next (commandReset s) := whenRunning_of_none running _
  rw [sent, reset]
  refine ⟨fun f sending unarmed empty => ?_, fun f p sending unarmed full => ?_, fun f sending armed => ?_,
    fun idle => exec_answers (r := .reset) (t := s) rfl ⟨running, idle⟩ rfl⟩
  · rw [answerSent_empty sending unarmed empty]
  · rw [answerSent_held sending unarmed full]
  · rw [answerSent_armed sending armed, commandReset_armed sending armed]
    exact ⟨rfl, rfl⟩

/-! ## Numbers read from and written to bytes (R175) -/

theorem joinHalf_halfBytes (v : Half) : joinHalf (v.extractLsb' 0 8) (v.extractLsb' 8 8) = v := by
  rw [joinHalf, BitVec.extractLsb'_append_extractLsb'_eq_extractLsb' (by omega)]
  exact BitVec.extractLsb'_eq_self

theorem joinWord_wordBytes (v : Word) :
    joinWord (v.extractLsb' 0 8) (v.extractLsb' 8 8) (v.extractLsb' 16 8) (v.extractLsb' 24 8) = v :=
  Reader.frameNumber_wordBytes v

/-! ## The receiver (R169) -/

/-- The state with the receiver at `r`. -/
def State.withReceiver (r : Receiver) (s : State) : State := { s with link := { s.link with receiver := r } }

@[simp] theorem State.withReceiver_receiver (r : Receiver) (s : State) : (s.withReceiver r).link.receiver = r := rfl
@[simp] theorem State.withReceiver_withReceiver (r r' : Receiver) (s : State) :
    (s.withReceiver r').withReceiver r = s.withReceiver r := rfl

theorem State.withReceiver_self {r : Receiver} {s : State} (h : s.link.receiver = r) : s.withReceiver r = s := by
  subst h; rfl

section
variable {s : State} {v : Byte}

/-- R168, R169: SYNC in HUNT begins a frame. -/
theorem receiveByte_sync (h : s.link.receiver = .hunt) : receiveByte 0x5A s = s.withReceiver .length := by
  simp only [receiveByte, h]; rfl

/-- R169: any other byte in HUNT is ignored. -/
theorem receiveByte_hunt (h : s.link.receiver = .hunt) (other : v ≠ 0x5A) : receiveByte v s = s := by
  simp only [receiveByte, h]; exact if_neg other

/-- R169: a LENGTH from 1 to 250. -/
theorem receiveByte_length (h : s.link.receiver = .length) (least : 1 ≤ v.toNat) (most : v.toNat ≤ 250) :
    receiveByte v s = s.withReceiver (.body v.toNat []) := by
  simp only [receiveByte, h]; exact if_pos ⟨least, most⟩

/-- R169: a LENGTH of no frame. -/
theorem receiveByte_badLength (h : s.link.receiver = .length) (bad : v.toNat = 0 ∨ 250 < v.toNat) :
    receiveByte v s = s.withReceiver .hunt := by
  have outside : ¬ (1 ≤ v.toNat ∧ v.toNat ≤ Config.maxPayload) := by simp only [Config.maxPayload]; omega
  simp only [receiveByte, h]; exact if_neg outside

/-- R169: a byte of the payload or of CHECK short of the frame's end. -/
theorem receiveByte_stored {n : Nat} {stored : List Byte} (h : s.link.receiver = .body n stored)
    (short : stored.length + 1 < n + 2) : receiveByte v s = s.withReceiver (.body n (stored ++ [v])) := by
  simp only [receiveByte, h]
  exact if_pos (by rw [List.length_append, List.length_singleton]; exact short)

/-- R169, R170: the last byte of a frame, the high byte of CHECK, completes it. -/
theorem receiveByte_completes {p : List Byte} {lo : Byte} (h : s.link.receiver = .body p.length (p ++ [lo])) :
    receiveByte v s = completeFrame p (v ++ lo) (s.withReceiver .hunt) := by
  have full : ¬ (p ++ [lo, v]).length < p.length + 2 := by simp
  have low : (p ++ [lo, v]).getD p.length 0 = lo := by rw [List.getD_append_right _ _ _ _ le_rfl, Nat.sub_self]; rfl
  have high : (p ++ [lo, v]).getD (p.length + 1) 0 = v := by
    rw [List.getD_append_right _ _ _ _ (Nat.le_add_right _ 1), Nat.add_sub_cancel_left]; rfl
  simp only [receiveByte, h, bodyByte, List.append_assoc, List.singleton_append, if_neg full, List.take_left, low, high]
  rfl

/-- R169: bytes received in BODY, short of the frame's end, are stored one behind another. -/
theorem foldl_receiveByte_stored (bytes : List Byte) {n : Nat} {stored : List Byte} {s : State}
    (short : stored.length + bytes.length < n + 2) :
    bytes.foldl (fun t v => receiveByte v t) (s.withReceiver (.body n stored))
      = s.withReceiver (.body n (stored ++ bytes)) := by
  induction bytes generalizing stored with
  | nil => rw [List.append_nil]; rfl
  | cons v rest ih =>
    rw [List.length_cons] at short
    have first : stored.length + 1 < n + 2 := by omega
    rw [List.foldl_cons, receiveByte_stored rfl first, State.withReceiver_withReceiver,
      ih (by rw [List.length_append, List.length_singleton]; omega), List.append_assoc, List.singleton_append]

end

/-! ## The frame and its CHECK (R168, R170) -/

theorem frameOf_eq (p : List Byte) : frameOf p = [0x5A, BitVec.ofNat 8 p.length] ++ p
    ++ [BitVec.ofNat 8 (checkOf p).toNat, BitVec.ofNat 8 ((checkOf p).toNat / 256)] := by
  rw [frameOf, halfBytes_eq]; rfl

/-- R168, R170: behind the payload come the two bytes of CHECK, the low one first. -/
theorem frameOf_check (p : List Byte) : ∃ lo hi : Byte,
    frameOf p = [0x5A, BitVec.ofNat 8 p.length] ++ (p ++ [lo]) ++ [hi] ∧ hi ++ lo = checkOf p :=
  ⟨(checkOf p).extractLsb' 0 8, (checkOf p).extractLsb' 8 8, by rw [List.append_assoc, List.append_assoc]; rfl,
    joinHalf_halfBytes (checkOf p)⟩

/-- R170: the register is shifted, and meets the polynomial where the bit differs from its top bit. -/
theorem crcBit_eq (reg : Half) (bit : Bool) :
    crcBit reg bit = if xor bit reg.msb then (reg <<< 1) ^^^ 0x1021 else reg <<< 1 := by
  rw [crcBit, BitVec.msb_eq_getLsbD_last]

/-- R168, R169: SYNC and a LENGTH. -/
theorem foldl_receiveByte_header {n : Nat} {s : State} (least : 1 ≤ n) (most : n ≤ 250) (hunt : s.link.receiver = .hunt) :
    [0x5A, BitVec.ofNat 8 n].foldl (fun t v => receiveByte v t) s = s.withReceiver (.body n []) := by
  have length : (BitVec.ofNat 8 n).toNat = n := by rw [BitVec.toNat_ofNat]; omega
  rw [List.foldl_cons, receiveByte_sync hunt, List.foldl_cons, List.foldl_nil,
    receiveByte_length rfl (length.symm ▸ least) (length.symm ▸ most), length, State.withReceiver_withReceiver]

/-- R168 to R170: the bytes of a frame, one after another, are its payload accepted. -/
theorem foldl_receiveByte_frameOf {p : List Byte} {s : State} (least : 1 ≤ p.length) (most : p.length ≤ 250)
    (hunt : s.link.receiver = .hunt) : (frameOf p).foldl (fun t v => receiveByte v t) s = acceptFrame p s := by
  obtain ⟨lo, hi, bytes, check⟩ := frameOf_check p
  have short : ([] : List Byte).length + (p ++ [lo]).length < p.length + 2 := by simp
  calc (frameOf p).foldl (fun t v => receiveByte v t) s
    _ = receiveByte hi ((p ++ [lo]).foldl (fun t v => receiveByte v t) (s.withReceiver (.body p.length []))) := by
      rw [bytes, List.foldl_append, List.foldl_append, foldl_receiveByte_header least most hunt]; rfl
    _ = receiveByte hi (s.withReceiver (.body p.length (p ++ [lo]))) := by
      rw [foldl_receiveByte_stored _ short, List.nil_append]
    _ = completeFrame p (hi ++ lo) (s.withReceiver .hunt) := receiveByte_completes rfl
    _ = acceptFrame p s := by rw [check, completeFrame_accepted, State.withReceiver_self hunt]

/-- Settles O7: a frame's bytes by induction over those stored; its CHECK bit by bit. -/
theorem frameBytesAreOneAcceptedFrame : Obligations.FrameBytesAreOneAcceptedFrame :=
  ⟨fun _ _ least most hunt => foldl_receiveByte_frameOf least most hunt, crcBit_eq, fun _ => rfl, frameOf_eq⟩

/-! ## Bytes and whole frames as rows (R169 to R172) -/

/-- R169, R170: the row of a whole frame of a possible length leaves the receiver in HUNT (log 21). -/
theorem exec_frameAccepted {p : List Byte} {s : State} (check : Half) (running : s.resetting = none) (least : 1 ≤ p.length)
    (most : p.length ≤ 250) :
    exec (.frameAccepted p check) s = .next (completeFrame p check (s.withReceiver .hunt)) := by
  have fits : framePayloadOk p.length = true := by
    simp only [framePayloadOk, Config.maxPayload, least, most, decide_true, Bool.and_self]
  refine (whenRunning_of_none running _).trans (congrArg _ ?_)
  rw [frameArrives, if_pos fits]; rfl

/-- Settles O8: a byte by the receiver's state; a complete frame by its CHECK, the transmitter, the buffer and the
checks of its payload. -/
theorem receiverTakesBytesAndFrames : Obligations.ReceiverTakesBytesAndFrames := by
  refine ⟨fun v s running => ?_, fun p check s running least most => ?_⟩
  · have byte : exec (.byteReceived v) s = .next (receiveByte v s) := whenRunning_of_none running _
    rw [byte]
    refine ⟨fun hunt other => congrArg _ (receiveByte_hunt hunt other), fun hunt sync => ?_,
      fun length least most => congrArg _ (receiveByte_length length least most),
      fun length bad => congrArg _ (receiveByte_badLength length bad),
      fun n l body short => congrArg _ (receiveByte_stored body short), fun n p lo body count differs => ?_,
      fun n p lo body count agrees => ?_, whenRunning_of_none running _, whenRunning_of_none running _⟩
    · subst sync
      exact congrArg _ (receiveByte_sync hunt)
    · subst count
      rw [receiveByte_completes body, completeFrame_discarded differs]; rfl
    · subst count
      rw [receiveByte_completes body, ← agrees, completeFrame_accepted]; rfl
  · rw [exec_frameAccepted check running least most]
    refine ⟨fun differs => congrArg _ (completeFrame_discarded differs.symm _), fun agrees => ?_⟩
    rw [agrees, completeFrame_accepted]
    refine ⟨fun f sending empty => congrArg _ (meetFrame_held (s := s.withReceiver .hunt) sending empty _),
      fun f q sending full => congrArg _ (meetFrame_discarded (s := s.withReceiver .hunt) sending full _), fun idle => ?_⟩
    have taken : acceptFrame p (s.withReceiver .hunt) = takePayload p (s.withReceiver .hunt) :=
      meetFrame_idle (s := s.withReceiver .hunt) idle _
    rw [taken]
    exact ⟨fun r request => congrArg _ (takePayload_request request _),
      fun code unknown => congrArg _ (takePayload_unknownCommand unknown _),
      fun code bad => congrArg _ (takePayload_badLength bad _)⟩

end Sys2Proof.Machine

namespace Sys2Proof.Machine

/-! # Requests and their payloads (O6) -/

theorem halfBytes_joinHalf (a b : Byte) : halfBytes (joinHalf a b) = [a, b] := by
  rw [halfBytes, joinHalf, BitVec.extractLsb'_append_eq_right, BitVec.extractLsb'_append_eq_left]

theorem wordBytes_joinWord (a b c d : Byte) : wordBytes (joinWord a b c d) = [a, b, c, d] := by
  rw [wordBytes, joinWord, BitVec.extractLsb'_append_eq_right, BitVec.extractLsb'_append_eq_of_le (start := 8) le_rfl,
    BitVec.extractLsb'_append_eq_of_le (start := 16) (by omega), BitVec.extractLsb'_append_eq_of_le (start := 24) (by omega),
    BitVec.extractLsb'_append_eq_right, BitVec.extractLsb'_append_eq_of_le (start := 16 - 8) le_rfl,
    BitVec.extractLsb'_append_eq_of_le (start := 24 - 8) (by omega), BitVec.extractLsb'_append_eq_right,
    BitVec.extractLsb'_append_eq_left]

/-! ## Settings (R175, Table 55) -/

section
variable {α : Type} {given : Bool} {bs : List Byte} {x : α}

/-- A one-byte setting is read where it stands in the bytes, and is 0 where it is not given. -/
theorem bind_takeByte_eq_some {cont : Byte × List Byte → Option α} : (takeByte given bs).bind cont = some x ↔
    ∃ v rest, bs = giveByte given v ++ rest ∧ (given = true ∨ v = 0) ∧ cont (v, rest) = some x := by
  cases given with
  | false =>
    refine ⟨fun h => ⟨0, bs, rfl, .inr rfl, h⟩, fun ⟨v, rest, bytes, zero, h⟩ => ?_⟩
    obtain rfl := zero.resolve_left Bool.false_ne_true
    exact bytes ▸ h
  | true =>
    refine ⟨fun h => ?_, fun ⟨v, rest, bytes, _, h⟩ => bytes ▸ h⟩
    cases bs with
    | nil => cases h
    | cons v rest => exact ⟨v, rest, rfl, .inl rfl, h⟩

/-- A two-byte setting is read where it stands in the bytes, and is 0 where it is not given. -/
theorem bind_takeHalf_eq_some {cont : Half × List Byte → Option α} : (takeHalf given bs).bind cont = some x ↔
    ∃ v rest, bs = giveHalf given v ++ rest ∧ (given = true ∨ v = 0) ∧ cont (v, rest) = some x := by
  cases given with
  | false =>
    refine ⟨fun h => ⟨0, bs, rfl, .inr rfl, h⟩, fun ⟨v, rest, bytes, zero, h⟩ => ?_⟩
    obtain rfl := zero.resolve_left Bool.false_ne_true
    exact bytes ▸ h
  | true =>
    refine ⟨fun h => ?_, fun ⟨v, rest, bytes, _, h⟩ => ?_⟩
    · match bs, h with
      | a :: b :: rest, h =>
        exact ⟨joinHalf a b, rest, congrArg (· ++ rest) (halfBytes_joinHalf a b).symm, .inl rfl, h⟩
    · subst bytes
      exact (congrArg (fun w => cont (w, rest)) (joinHalf_halfBytes v)).trans h

end

/-- R175: settings that are not given are 0. -/
theorem settingsCanonical_iff (a : SettingsArg) : a.canonical = true ↔
    (a.gives 0 = true ∨ a.fuelCurve = 0) ∧ (a.gives 1 = true ∨ a.probeCurve = 0) ∧ (a.gives 2 = true ∨ a.heaterLoad = 0)
      ∧ (a.gives 3 = true ∨ a.interval = 0) ∧ (a.gives 4 = true ∨ a.clockMode = 0)
      ∧ (a.gives 5 = true ∨ a.termination = 0) ∧ (a.gives 6 = true ∨ a.maxHeat = 0) ∧ (a.gives 7 = true ∨ a.drip = 0)
      ∧ (a.gives 8 = true ∨ a.lowFuel = 0) ∧ (a.gives 9 = true ∨ a.dropThreshold = 0)
      ∧ (a.gives 10 = true ∨ a.doorRunning = 0) ∧ (a.gives 11 = true ∨ a.doorStopped = 0) := by
  simp only [SettingsArg.canonical, Bool.and_eq_true, Bool.or_eq_true, beq_iff_eq, and_assoc]

/-- R175: canonical settings are read back from their bytes. -/
theorem parseSettings_settingsBytes {a : SettingsArg} {bs : List Byte} (canonical : a.canonical = true)
    (bytes : settingsBytes a = halfBytes a.mask ++ bs) : parseSettings a.mask bs = some a := by
  obtain ⟨h0, h1, h2, h3, h4, h5, h6, h7, h8, h9, h10, h11⟩ := (settingsCanonical_iff a).1 canonical
  simp only [settingsBytes, List.append_assoc] at bytes
  rw [← List.append_cancel_left bytes]
  refine bind_takeByte_eq_some.2 ⟨a.fuelCurve, _, rfl, h0, ?_⟩
  refine bind_takeByte_eq_some.2 ⟨a.probeCurve, _, rfl, h1, ?_⟩
  refine bind_takeByte_eq_some.2 ⟨a.heaterLoad, _, rfl, h2, ?_⟩
  refine bind_takeHalf_eq_some.2 ⟨a.interval, _, rfl, h3, ?_⟩
  refine bind_takeByte_eq_some.2 ⟨a.clockMode, _, rfl, h4, ?_⟩
  refine bind_takeHalf_eq_some.2 ⟨a.termination, _, rfl, h5, ?_⟩
  refine bind_takeHalf_eq_some.2 ⟨a.maxHeat, _, rfl, h6, ?_⟩
  refine bind_takeHalf_eq_some.2 ⟨a.drip, _, rfl, h7, ?_⟩
  refine bind_takeHalf_eq_some.2 ⟨a.lowFuel, _, rfl, h8, ?_⟩
  refine bind_takeHalf_eq_some.2 ⟨a.dropThreshold, _, rfl, h9, ?_⟩
  refine bind_takeHalf_eq_some.2 ⟨a.doorRunning, _, rfl, h10, ?_⟩
  exact bind_takeHalf_eq_some.2 ⟨a.doorStopped, [], (List.append_nil _).symm, h11, rfl⟩

/-- R175: settings read stand in the bytes, and are canonical. -/
theorem settingsBytes_of_parseSettings {mask : Half} {bs : List Byte} {a : SettingsArg}
    (h : parseSettings mask bs = some a) : settingsBytes a = halfBytes mask ++ bs ∧ a.canonical = true := by
  obtain ⟨fuelCurve, _, rfl, h0, h⟩ := bind_takeByte_eq_some.1 h
  obtain ⟨probeCurve, _, rfl, h1, h⟩ := bind_takeByte_eq_some.1 h
  obtain ⟨heaterLoad, _, rfl, h2, h⟩ := bind_takeByte_eq_some.1 h
  obtain ⟨interval, _, rfl, h3, h⟩ := bind_takeHalf_eq_some.1 h
  obtain ⟨clockMode, _, rfl, h4, h⟩ := bind_takeByte_eq_some.1 h
  obtain ⟨termination, _, rfl, h5, h⟩ := bind_takeHalf_eq_some.1 h
  obtain ⟨maxHeat, _, rfl, h6, h⟩ := bind_takeHalf_eq_some.1 h
  obtain ⟨drip, _, rfl, h7, h⟩ := bind_takeHalf_eq_some.1 h
  obtain ⟨lowFuel, _, rfl, h8, h⟩ := bind_takeHalf_eq_some.1 h
  obtain ⟨dropThreshold, _, rfl, h9, h⟩ := bind_takeHalf_eq_some.1 h
  obtain ⟨doorRunning, _, rfl, h10, h⟩ := bind_takeHalf_eq_some.1 h
  obtain ⟨doorStopped, rest, rfl, h11, h⟩ := bind_takeHalf_eq_some.1 h
  cases rest with
  | cons => cases h
  | nil =>
    cases h
    refine ⟨?_, (settingsCanonical_iff _).2 ⟨h0, h1, h2, h3, h4, h5, h6, h7, h8, h9, h10, h11⟩⟩
    simp only [settingsBytes, SettingsArg.gives, List.append_assoc, List.append_nil]

/-! ## The points of a curve -/

/-- R88: points are read where they stand in the bytes, six to a point, and no byte more. -/
theorem parsePoints_eq_some {bs : List Byte} {pts : List (Word × Half)} :
    parsePoints bs = some pts ↔ bs = pts.flatMap pointBytes := by
  constructor
  · intro h
    induction bs using parsePoints.induct generalizing pts with
    | case1 => cases h; rfl
    | case2 a b c d e f rest ih =>
      obtain ⟨tail, read, rfl⟩ := Option.map_eq_some_iff.1 h
      rw [List.flatMap_cons, ← ih read, pointBytes, wordBytes_joinWord, halfBytes_joinHalf]; rfl
    | case3 bs nonempty uneven => rw [parsePoints.eq_3 bs nonempty uneven] at h; cases h
  · rintro rfl
    induction pts with
    | nil => rfl
    | cons p rest ih =>
      refine (congrArg (Option.map _) ih).trans (congrArg (fun q => some (q :: rest)) ?_)
      exact Prod.ext (joinWord_wordBytes p.1) (joinHalf_halfBytes p.2)

/-! ## Operands (Table 55) -/

section
variable {ops : List Byte} {r : Request}

theorem parse1_eq_some {f : Byte → Request} : parse1 f ops = some r ↔ ∃ a, r = f a ∧ ops = [a] := by
  constructor
  · unfold parse1; split
    next a => rintro ⟨⟩; exact ⟨a, rfl, rfl⟩
    next => nofun
  · rintro ⟨a, rfl, rfl⟩; rfl

theorem parse2_eq_some {f : Byte → Byte → Request} : parse2 f ops = some r ↔ ∃ a b, r = f a b ∧ ops = [a, b] := by
  constructor
  · unfold parse2; split
    next a b => rintro ⟨⟩; exact ⟨a, b, rfl, rfl⟩
    next => nofun
  · rintro ⟨a, b, rfl, rfl⟩; rfl

theorem parseRouteSet_eq_some : parseRouteSet ops = some r ↔ ∃ k m c, r = .routeSet k m c ∧ ops = [k, m, c] := by
  constructor
  · unfold parseRouteSet; split
    next k m c => rintro ⟨⟩; exact ⟨k, m, c, rfl, rfl⟩
    next => nofun
  · rintro ⟨k, m, c, rfl, rfl⟩; rfl

theorem parseNone_eq_some {q : Request} : parseNone q ops = some r ↔ r = q ∧ ops = [] := by
  cases ops <;> simp [parseNone, eq_comm]

theorem parseWord_eq_some {f : Word → Request} : parseWord f ops = some r ↔ ∃ n, r = f n ∧ ops = wordBytes n := by
  constructor
  · unfold parseWord; split
    next a b c d => rintro ⟨⟩; exact ⟨_, rfl, (wordBytes_joinWord a b c d).symm⟩
    next => nofun
  · rintro ⟨n, rfl, rfl⟩
    exact congrArg (fun w => some (f w)) (joinWord_wordBytes n)

theorem parseByteWord_eq_some {f : Byte → Word → Request} :
    parseByteWord f ops = some r ↔ ∃ x n, r = f x n ∧ ops = x :: wordBytes n := by
  constructor
  · unfold parseByteWord; split
    next x a b c d => rintro ⟨⟩; exact ⟨x, _, rfl, congrArg (x :: ·) (wordBytes_joinWord a b c d).symm⟩
    next => nofun
  · rintro ⟨x, n, rfl, rfl⟩
    exact congrArg (fun w => some (f x w)) (joinWord_wordBytes n)

theorem parseNumberSettings_eq_some {f : TrailerNo → SettingsArg → Request} : parseNumberSettings f ops = some r ↔
    ∃ n a, a.canonical = true ∧ r = f n a ∧ ops = wordBytes n ++ settingsBytes a := by
  constructor
  · unfold parseNumberSettings; split
    next a b c d m0 m1 rest =>
      intro h
      obtain ⟨x, read, rfl⟩ := Option.map_eq_some_iff.1 h
      obtain ⟨bytes, canonical⟩ := settingsBytes_of_parseSettings read
      exact ⟨_, x, canonical, rfl, by rw [bytes, wordBytes_joinWord, halfBytes_joinHalf]; rfl⟩
    next => nofun
  · rintro ⟨n, a, canonical, rfl, rfl⟩
    obtain ⟨bs, bytes⟩ : ∃ bs, settingsBytes a = halfBytes a.mask ++ bs := by
      simp only [settingsBytes, List.append_assoc]; exact ⟨_, rfl⟩
    rw [bytes]
    show (parseSettings (joinHalf _ _) bs).map (f (joinWord _ _ _ _)) = _
    rw [joinHalf_halfBytes, joinWord_wordBytes, parseSettings_settingsBytes canonical bytes, Option.map_some]

theorem parseCurveWrite_eq_some : parseCurveWrite ops = some r ↔ ∃ c k n pts, pts.length = n.toNat ∧
    r = .curveWrite c k n pts ∧ ops = [c, k, n] ++ pts.flatMap pointBytes := by
  constructor
  · unfold parseCurveWrite; split
    next c k n rest =>
      intro h
      obtain ⟨pts, read, h⟩ := Option.bind_eq_some_iff.1 h
      obtain ⟨count, made⟩ := Option.ite_none_right_eq_some.1 h
      cases made
      exact ⟨c, k, n, pts, count, rfl, congrArg ([c, k, n] ++ ·) (parsePoints_eq_some.1 read)⟩
    next => nofun
  · rintro ⟨c, k, n, pts, count, rfl, rfl⟩
    exact Option.bind_eq_some_iff.2 ⟨pts, parsePoints_eq_some.2 rfl, if_pos count⟩

end

/-! ## The two checks on a payload (R172) -/

section
variable {code c : Byte} {ops : List Byte} {r : Request} {parser : List Byte → Option Request}

/-- Whatever a parser reads is a canonical request of one code, with the operands it read. -/
def ReadsRequests (code : Nat) (parser : List Byte → Option Request) : Prop :=
  ∀ (ops : List Byte) (r : Request), parser ops = some r →
    r.code.toNat = code ∧ r.operands = ops ∧ r.canonical = true

theorem parse1_reads {n : Nat} {f : Byte → Request}
    (h : ∀ a, (f a).code.toNat = n ∧ (f a).operands = [a] ∧ (f a).canonical = true) : ReadsRequests n (parse1 f) := by
  intro ops r read
  obtain ⟨a, rfl, rfl⟩ := parse1_eq_some.1 read
  exact h a

theorem parse2_reads {n : Nat} {f : Byte → Byte → Request}
    (h : ∀ a b, (f a b).code.toNat = n ∧ (f a b).operands = [a, b] ∧ (f a b).canonical = true) :
    ReadsRequests n (parse2 f) := by
  intro ops r read
  obtain ⟨a, b, rfl, rfl⟩ := parse2_eq_some.1 read
  exact h a b

theorem parseWord_reads {n : Nat} {f : Word → Request}
    (h : ∀ w, (f w).code.toNat = n ∧ (f w).operands = wordBytes w ∧ (f w).canonical = true) :
    ReadsRequests n (parseWord f) := by
  intro ops r read
  obtain ⟨w, rfl, rfl⟩ := parseWord_eq_some.1 read
  exact h w

theorem parseByteWord_reads {n : Nat} {f : Byte → Word → Request}
    (h : ∀ x w, (f x w).code.toNat = n ∧ (f x w).operands = x :: wordBytes w ∧ (f x w).canonical = true) :
    ReadsRequests n (parseByteWord f) := by
  intro ops r read
  obtain ⟨x, w, rfl, rfl⟩ := parseByteWord_eq_some.1 read
  exact h x w

theorem parseNumberSettings_reads {n : Nat} {f : TrailerNo → SettingsArg → Request}
    (h : ∀ w a, a.canonical = true →
      (f w a).code.toNat = n ∧ (f w a).operands = wordBytes w ++ settingsBytes a ∧ (f w a).canonical = true) :
    ReadsRequests n (parseNumberSettings f) := by
  intro ops r read
  obtain ⟨w, a, canonical, rfl, rfl⟩ := parseNumberSettings_eq_some.1 read
  exact h w a canonical

theorem parseRouteSet_reads : ReadsRequests 20 parseRouteSet := by
  intro ops r read
  obtain ⟨k, m, c, rfl, rfl⟩ := parseRouteSet_eq_some.1 read
  exact ⟨rfl, rfl, rfl⟩

theorem parseCurveWrite_reads : ReadsRequests 15 parseCurveWrite := by
  intro ops r read
  obtain ⟨c, k, n, pts, count, rfl, rfl⟩ := parseCurveWrite_eq_some.1 read
  exact ⟨rfl, rfl, decide_eq_true count⟩

theorem parseNone_reads {n : Nat} {q : Request} (h : q.code.toNat = n ∧ q.operands = [] ∧ q.canonical = true) :
    ReadsRequests n (parseNone q) := by
  intro ops r read
  obtain ⟨rfl, rfl⟩ := parseNone_eq_some.1 read
  exact h

/-- Table 55: the parser of a code reads requests of that code only. -/
theorem operandParser_reads (h : operandParser code = some parser) : ReadsRequests code.toNat parser := by
  unfold operandParser at h
  split at h
  case h_25 => cases h
  all_goals
    rename_i number
    rw [number]
    cases h
  case h_1 | h_2 => exact parseNumberSettings_reads fun _ _ canonical => ⟨rfl, rfl, canonical⟩
  case h_3 | h_7 | h_8 | h_9 => exact parseWord_reads fun _ => ⟨rfl, rfl, rfl⟩
  case h_4 | h_6 | h_18 => exact parseByteWord_reads fun _ _ => ⟨rfl, rfl, rfl⟩
  case h_14 | h_23 => exact parse2_reads fun _ _ => ⟨rfl, rfl, rfl⟩
  case h_15 => exact parseCurveWrite_reads
  case h_20 => exact parseRouteSet_reads
  case h_22 | h_24 => exact parseNone_reads ⟨rfl, rfl, rfl⟩
  all_goals exact parse1_reads fun _ => ⟨rfl, rfl, rfl⟩

/-- Table 55: the codes run from 0x01 to 0x18. -/
theorem operandParser_eq_none : operandParser code = none ↔ code = 0 ∨ 0x18 < code.toNat := by
  constructor
  · intro h
    unfold operandParser at h
    split at h
    case h_25 =>
      have least : code = 0 ↔ code.toNat = 0 := BitVec.toNat_eq
      simp only [imp_false] at *
      rw [least]; omega
    all_goals cases h
  · intro outside
    unfold operandParser
    split
    case h_25 => rfl
    all_goals bv_omega

theorem parseOperands_eq_request :
    parseOperands code ops = .request r ↔ ∃ parser, operandParser code = some parser ∧ parser ops = some r := by
  unfold parseOperands
  split
  next unknown => simp [unknown]
  next parser known => split <;> simp [*]

/-- R172: the first check is that of the code. -/
theorem parseOperands_eq_unknownCommand :
    parseOperands code ops = .unknownCommand c ↔ c = code ∧ operandParser code = none := by
  unfold parseOperands
  split
  next unknown => simp [unknown, eq_comm]
  next parser known => split <;> simp [known]

/-- R172: the second check is that of the operands, for a known code. -/
theorem parseOperands_eq_badLength : parseOperands code ops = .badLength c ↔
    c = code ∧ operandParser code ≠ none ∧ ∀ r, parseOperands code ops ≠ .request r := by
  unfold parseOperands
  split
  next unknown => simp [unknown]
  next parser known => split <;> simp [known, eq_comm]

end

/-- R172: what is read as a request is that request's payload. -/
theorem payload_of_parse {p : List Byte} {r : Request} (h : parse p = .request r) :
    r.payload = p ∧ r.canonical = true := by
  cases p with
  | nil => cases h
  | cons code ops =>
    obtain ⟨parser, known, read⟩ := parseOperands_eq_request.1 h
    obtain ⟨number, operands, canonical⟩ := operandParser_reads known ops r read
    exact ⟨by rw [Request.payload, operands, BitVec.eq_of_toNat_eq number], canonical⟩

/-- R172, R175: a canonical request is read back from its payload. -/
theorem parse_payload {r : Request} (canonical : r.canonical = true) : parse r.payload = .request r := by
  refine parseOperands_eq_request.2 ?_
  cases r with
  | book n a | amend n a => exact ⟨_, rfl, parseNumberSettings_eq_some.2 ⟨n, a, canonical, rfl, rfl⟩⟩
  | retire n | rebase n | defrostNow n | defrostStop n => exact ⟨_, rfl, parseWord_eq_some.2 ⟨n, rfl, rfl⟩⟩
  | lookup x v | assign x v | set x v => exact ⟨_, rfl, parseByteWord_eq_some.2 ⟨x, v, rfl, rfl⟩⟩
  | list x | bayStatus x | bayEnable x | bayDisable x | clearFault x | curveRead x | curveClear x | get x | routeRead x =>
    exact ⟨_, rfl, parse1_eq_some.2 ⟨x, rfl, rfl⟩⟩
  | spot x y | ack x y => exact ⟨_, rfl, parse2_eq_some.2 ⟨x, y, rfl, rfl⟩⟩
  | curveWrite c k n pts =>
    exact ⟨_, rfl, parseCurveWrite_eq_some.2 ⟨c, k, n, pts, of_decide_eq_true canonical, rfl, rfl⟩⟩
  | routeSet k m c => exact ⟨_, rfl, parseRouteSet_eq_some.2 ⟨k, m, c, rfl, rfl⟩⟩
  | take | reset => exact ⟨_, rfl, parseNone_eq_some.2 ⟨rfl, rfl⟩⟩

/-- Settles O6: both round trips, one parser of operands at a time; then the two checks. -/
theorem payloadsAndRequestsCorrespond : Obligations.PayloadsAndRequestsCorrespond := by
  refine ⟨fun _ => parse_payload, fun _ _ => payload_of_parse, fun code c operands =>
    ⟨parseOperands_eq_unknownCommand.trans (and_congr_right fun _ => operandParser_eq_none), ?_⟩⟩
  have known : operandParser code ≠ none ↔ 1 ≤ code.toNat ∧ code.toNat ≤ 0x18 := by
    rw [Ne, operandParser_eq_none]; bv_omega
  have unread : (∀ r, parseOperands code operands ≠ .request r)
      ↔ ∀ r : Request, r.canonical = true → r.payload ≠ code :: operands := by
    refine ⟨fun never r canonical same => never r ?_, fun never r read => ?_⟩
    · rw [← parse_payload canonical, same]; rfl
    · obtain ⟨same, canonical⟩ := payload_of_parse (p := code :: operands) read
      exact never r canonical same
  exact parseOperands_eq_badLength.trans (by rw [known, unread, and_assoc])

end Sys2Proof.Machine

namespace Sys2Proof.Machine

/-! # The queue of waiting commands (O1, O3; log 1)

No operation of a block touches the queue, which is a field of the model. -/

/-- Settles O1: the definition of a step on a queue that is not empty. -/
theorem stepTakesTheFrontCommand : Obligations.StepTakesTheFrontCommand := step_of_cons

/-! ## Work at several bays, at a bay, on a named record -/

theorem forBays_pending {work : Bay → State → State} (h : ∀ b s, (work b s).pending = s.pending) (bays : List Bay)
    (s : State) : (forBays work bays s).pending = s.pending :=
  Keeps.forBays (P := fun t => t.pending = s.pending) (fun b t ht => (h b t).trans ht) bays s rfl

theorem onNamed_pending {n : TrailerNo} {work : SlotIx → Record → State × Answer} {s : State}
    (h : ∀ i r, (work i r).1.pending = s.pending) : (onNamed n work s).1.pending = s.pending :=
  onNamed_keeps (P := fun t => t.pending = s.pending) rfl fun i r _ _ => h i r

theorem onBay_pending {c : Byte} {work : Bay → State × Answer} {s : State}
    (h : ∀ b, (work b).1.pending = s.pending) : (onBay c work s).1.pending = s.pending :=
  onBay_keeps (P := fun t => t.pending = s.pending) rfl h

/-! ## The shared operations -/

section
variable (b : Bay) (s : State)

@[simp] theorem heatingToWaiting_pending : (heatingToWaiting b s).pending = s.pending := by rw [heatingToWaiting_frame]
@[simp] theorem endHeating_pending (r : Record) : (endHeating b r s).pending = s.pending := by rw [endHeating_frame]
@[simp] theorem expireIdle_pending (r : Record) : (expireIdle b r s).pending = s.pending := by rw [expireIdle_frame]
@[simp] theorem expireWaiting_pending (r : Record) : (expireWaiting b r s).pending = s.pending := by
  rw [expireWaiting_frame]
@[simp] theorem expireHeating_pending (r : Record) (n : Nat) : (expireHeating b r n s).pending = s.pending := by
  rw [expireHeating_frame]
@[simp] theorem expireDrip_pending (r : Record) : (expireDrip b r s).pending = s.pending := by rw [expireDrip_frame]
@[simp] theorem defrostRound_pending : (defrostRound b s).pending = s.pending := by rw [defrostRound_frame]
@[simp] theorem channelRound_pending : (channelRound b s).pending = s.pending := by rw [channelRound_frame]
@[simp] theorem doorRound_pending : (doorRound b s).pending = s.pending := by rw [doorRound_frame]
@[simp] theorem retry_pending : (retry b s).pending = s.pending := by rw [retry_frame]
@[simp] theorem enterServing_pending : (enterServing b s).pending = s.pending := by rw [enterServing_frame]
@[simp] theorem trip_pending : (trip b s).pending = s.pending := by rw [trip_frame]
@[simp] theorem park_pending (i : SlotIx) (r : Record) : (park i r b s).pending = s.pending := by rw [park_frame]
@[simp] theorem enable_pending : (enable b s).pending = s.pending := by rw [enable_frame]
@[simp] theorem disable_pending : (disable b s).pending = s.pending := by rw [disable_frame]
@[simp] theorem connect_pending : (connect b s).pending = s.pending := by rw [connect_frame]
@[simp] theorem disconnect_pending : (disconnect b s).pending = s.pending := by rw [disconnect_frame]
@[simp] theorem endFuelJudgements_pending : (endFuelJudgements b s).pending = s.pending := by
  rw [endFuelJudgements_frame]
@[simp] theorem acceptDoor_pending (closed : Bool) : (acceptDoor b closed s).pending = s.pending := by
  rw [acceptDoor_frame]
@[simp] theorem deliverReading_pending (ch : Channel) (x : Reading) : (deliverReading ch x s).pending = s.pending := by
  rw [deliverReading_frame]
@[simp] theorem deliverOutcome_pending (o : Option TrailerNo) : (deliverOutcome o s).pending = s.pending := by
  rw [deliverOutcome_frame]
@[simp] theorem attemptFails_pending (n start : Nat) : (attemptFails n start s).pending = s.pending := by
  rw [attemptFails_frame]
@[simp] theorem bringHeadLine_pending (high : Bool) : (bringHeadLine high s).pending = s.pending := by
  rw [bringHeadLine_frame]
@[simp] theorem pointWork_pending (p : Point) : (pointWork p s).pending = s.pending := by rw [pointWork_frame]

@[simp] theorem acceptOvc_pending (closed : Bool) : (acceptOvc b closed s).pending = s.pending := by
  unfold acceptOvc
  simp only
  split
  · exact trip_pending b _
  · rfl

end

/-! ## The requests -/

section
variable (s : State)

theorem book_pending (n : TrailerNo) (a : SettingsArg) : (book n a s).1.pending = s.pending := by
  unfold book
  repeat' split
  all_goals rfl

theorem amend_pending (n : TrailerNo) (a : SettingsArg) : (amend n a s).1.pending = s.pending := by
  unfold amend; split
  · rfl
  · refine onNamed_pending fun i r => ?_
    simp only
    repeat' split
    all_goals simp

theorem retire_pending (n : TrailerNo) : (retire n s).1.pending = s.pending :=
  onNamed_pending fun _ _ => by split <;> rfl

theorem assign_pending (c : Byte) (n : TrailerNo) : (assign c n s).1.pending = s.pending := by
  refine onBay_pending fun b => ?_
  unfold assignAt
  repeat' split
  all_goals simp

theorem rebase_pending (n : TrailerNo) : (rebase n s).1.pending = s.pending := by
  refine onNamed_pending fun i r => ?_
  simp only
  repeat' split
  all_goals simp

theorem defrostNow_pending (n : TrailerNo) : (defrostNow n s).1.pending = s.pending := by
  refine onNamed_pending fun i r => ?_
  repeat' split
  all_goals rfl

theorem defrostStop_pending (n : TrailerNo) : (defrostStop n s).1.pending = s.pending := by
  refine onNamed_pending fun i r => ?_
  repeat' split
  all_goals simp

theorem commandClearFault_pending (c : Byte) : (commandClearFault c s).1.pending = s.pending := by
  refine onBay_pending fun b => ?_
  unfold clearFault
  repeat' split
  all_goals simp

theorem spot_pending (c k : Byte) : (spot c k s).1.pending = s.pending := by
  refine onBay_pending fun b => ?_
  simp only
  repeat' split
  all_goals rfl

theorem storeCurve_pending (c : Fin 8) (v : Option Curve) : (storeCurve c v s).pending = s.pending :=
  forBays_pending endFuelJudgements_pending _ _

theorem curveWrite_pending (c k n : Byte) (pts : List (Word × Half)) : (curveWrite c k n pts s).1.pending = s.pending := by
  unfold curveWrite
  simp only
  repeat' split
  all_goals simp only [storeCurve_pending]

theorem curveClear_pending (c : Byte) : (curveClear c s).1.pending = s.pending := by
  unfold curveClear
  repeat' split
  all_goals simp only [storeCurve_pending]

theorem setFeederUnits_pending (c : Nat) : (setFeederUnits c s).pending = s.pending :=
  forBays_pending heatingToWaiting_pending _ _

theorem storeSetting_pending {x : Setting} {v : Nat} {t : State} (h : storeSetting x v s = some t) :
    t.pending = s.pending := by
  cases x <;> simp only [storeSetting, Option.map_eq_some_iff, Option.some.injEq, reduceCtorEq] at h
  case guard => obtain ⟨g, -, rfl⟩ := h; rfl
  case feederUnits => subst h; exact setFeederUnits_pending s _
  all_goals subst h; rfl

theorem set_pending (c : Byte) (v : Word) : (set c v s).1.pending = s.pending := by
  unfold set setNamed
  split
  · split
    next stored => exact storeSetting_pending s stored
    · rfl
  · rfl

theorem routeSet_pending (k m c : Byte) : (routeSet k m c s).1.pending = s.pending := by
  unfold routeSet; split <;> rfl

theorem ack_pending (k p : Byte) : (ack k p s).1.pending = s.pending := by unfold ack; split <;> rfl

@[simp] theorem runRequest_pending (r : Request) : (runRequest r s).1.pending = s.pending := by
  cases r with
  | book n a => exact book_pending s n a
  | amend n a => exact amend_pending s n a
  | retire n => exact retire_pending s n
  | lookup sel op =>
    simp only [runRequest, lookup]
    split
    · exact onNamed_pending fun _ _ => rfl
    all_goals rfl
  | list st => simp only [runRequest, list]; split <;> rfl
  | assign b n => exact assign_pending s b n
  | rebase n => exact rebase_pending s n
  | defrostNow n => exact defrostNow_pending s n
  | defrostStop n => exact defrostStop_pending s n
  | bayStatus b => exact onBay_pending fun _ => rfl
  | bayEnable b => exact onBay_pending fun b => enable_pending b s
  | bayDisable b => exact onBay_pending fun b => disable_pending b s
  | clearFault b => exact commandClearFault_pending s b
  | spot b k => exact spot_pending s b k
  | curveWrite c k n pts => exact curveWrite_pending s c k n pts
  | curveRead c => simp only [runRequest, curveRead]; split <;> rfl
  | curveClear c => exact curveClear_pending s c
  | set x v => exact set_pending s x v
  | get x => simp only [runRequest, get]; split <;> rfl
  | routeSet k m c => exact routeSet_pending s k m c
  | routeRead k => simp only [runRequest, routeRead]; split <;> rfl
  | take => rfl
  | ack k p => exact ack_pending s k p
  | reset => rfl

/-! ## The host link and the resets -/

@[simp] theorem takeRequest_pending (r : Request) : (takeRequest r s).pending = s.pending := runRequest_pending s r

@[simp] theorem takePayload_pending (payload : List Byte) : (takePayload payload s).pending = s.pending := by
  unfold takePayload; split <;> simp

theorem meetFrame_pending {taken : State → State} (h : ∀ t, (taken t).pending = t.pending) (payload : List Byte) :
    (meetFrame payload taken s).pending = s.pending := by
  unfold meetFrame; split
  · exact h s
  · split <;> rfl

@[simp] theorem hostRequest_pending (r : Request) : (hostRequest r s).pending = s.pending :=
  meetFrame_pending s (fun t => takeRequest_pending t r) _

@[simp] theorem completeFrame_pending (payload : List Byte) (check : Half) :
    (completeFrame payload check s).pending = s.pending := by
  unfold completeFrame; split
  · exact meetFrame_pending s (fun t => takePayload_pending t payload) payload
  · rfl

@[simp] theorem receiveByte_pending (v : Byte) : (receiveByte v s).pending = s.pending := by
  unfold receiveByte bodyByte
  repeat' split
  all_goals simp

@[simp] theorem frameArrives_pending (payload : List Byte) (check : Half) :
    (frameArrives payload check s).pending = s.pending := by
  unfold frameArrives; split <;> simp

@[simp] theorem beginReset_pending (cause : ResetCause) : (beginReset cause s).pending = s.pending := rfl

@[simp] theorem answerSent_pending : (answerSent s).pending = s.pending := by
  unfold answerSent
  repeat' split
  all_goals simp

@[simp] theorem commandReset_pending : (commandReset s).pending = s.pending := by
  unfold commandReset
  repeat' split
  all_goals simp

@[simp] theorem pinReset_pending : (pinReset s).pending = s.pending := by unfold pinReset; split <;> rfl

/-! ## The round -/

@[simp] theorem bayRound_pending (b : Bay) : (bayRound b s).pending = s.pending := by simp [bayRound]

@[simp] theorem roundStart_pending (order : List Bay) : (roundStart order s).pending = s.pending :=
  forBays_pending (fun b t => bayRound_pending t b) _ _

@[simp] theorem resetEnd_pending : (resetEnd s).pending = s.pending := by
  unfold resetEnd; split
  · exact roundStart_pending _ _
  · rfl

@[simp] theorem passPoint_pending (limit : Nat) : (passPoint limit s).pending = s.pending := by
  unfold passPoint takePoint; split <;> simp

@[simp] theorem passPoints_pending (limit : Nat) : (passPoints limit s).pending = s.pending := by simp [passPoints]

@[simp] theorem pointRow_pending (p : Point) : (pointRow p s).pending = s.pending := by
  unfold pointRow takePoint
  repeat' split
  all_goals simp

@[simp] theorem roundStartRow_pending (order : List Bay) : (roundStartRow order s).pending = s.pending := by
  simp [roundStartRow]

@[simp] theorem channelCountdownExpiry_pending (b : Bay) (k : ChannelKind) :
    (channelCountdownExpiry b k s).pending = s.pending := by unfold channelCountdownExpiry; split <;> rfl

@[simp] theorem intervalExpiryAt_pending (b : Bay) : (intervalExpiryAt b s).pending = s.pending := by
  unfold intervalExpiryAt
  repeat' split
  all_goals simp

@[simp] theorem expiryInWaitingAt_pending (b : Bay) : (expiryInWaitingAt b s).pending = s.pending := by
  unfold expiryInWaitingAt
  repeat' split
  all_goals simp

@[simp] theorem endByMaximumAt_pending (b : Bay) : (endByMaximumAt b s).pending = s.pending := by
  unfold endByMaximumAt
  repeat' split
  all_goals simp

@[simp] theorem dripEndAt_pending (b : Bay) : (dripEndAt b s).pending = s.pending := by
  unfold dripEndAt
  repeat' split
  all_goals simp

/-! ## Conversions and the tag reader -/

@[simp] theorem conversionDone_pending (ch : Channel) (x : Reading) : (conversionDone ch x s).pending = s.pending := by
  simp [conversionDone]

@[simp] theorem referenceEnd_pending (rate : Nat) : (referenceEnd rate s).pending = s.pending := by
  unfold referenceEnd
  simp only
  repeat' split
  all_goals simp

@[simp] theorem sensorEnd_pending (x : ChannelInput) : (sensorEnd x s).pending = s.pending := by
  unfold sensorEnd
  simp only
  repeat' split
  all_goals simp

@[simp] theorem presenceSeen_pending : (presenceSeen s).pending = s.pending := by rw [presenceSeen_frame]

@[simp] theorem bitSlotSample_pending (high : Bool) : (bitSlotSample high s).pending = s.pending := by
  rw [bitSlotSample_frame]

@[simp] theorem presenceWindowClose_pending : (presenceWindowClose s).pending = s.pending := by
  unfold presenceWindowClose; split <;> simp

@[simp] theorem attemptJudged_pending : (attemptJudged s).pending = s.pending := by
  unfold attemptJudged
  repeat' split
  all_goals simp

/-! ## The lines of a bay -/

@[simp] theorem senseAcceptance_pending (b : Bay) (level : Bool) : (senseAcceptance b level s).pending = s.pending := by
  unfold senseAcceptance
  simp only
  repeat' split
  all_goals simp

@[simp] theorem doorAcceptance_pending (b : Bay) (closed : Bool) : (doorAcceptance b closed s).pending = s.pending := by
  unfold doorAcceptance; split <;> simp

@[simp] theorem runAcceptance_pending (b : Bay) (active : Bool) : (runAcceptance b active s).pending = s.pending := by
  unfold runAcceptance; split <;> rfl

@[simp] theorem overcurrentAcceptance_pending (b : Bay) (closed : Bool) :
    (overcurrentAcceptance b closed s).pending = s.pending := by
  unfold overcurrentAcceptance; split <;> simp

@[simp] theorem powerGoodWaitEnd_pending (b : Bay) : (powerGoodWaitEnd b s).pending = s.pending := by
  unfold powerGoodWaitEnd; split <;> rfl

@[simp] theorem senseSample_pending (b : Bay) (level : Bool) : (senseSample b level s).pending = s.pending := by
  unfold senseSample
  repeat' split
  all_goals simp

@[simp] theorem watchedSamples_pending (b : Bay) (x : LineSample) : (watchedSamples b x s).pending = s.pending := by
  have door (t : State) : (doorSample b x.door t).pending = t.pending := by simp only [doorSample]; split <;> simp
  have run (t : State) : (runSample b x.run t).pending = t.pending := by simp only [runSample]; split <;> rfl
  have ovc (t : State) : (ovcSample b x.ovc t).pending = t.pending := by simp only [ovcSample]; split <;> simp
  unfold watchedSamples; split
  · rw [ovc, run, door]
  · rfl

@[simp] theorem bayTick_pending (samples : Vector LineSample 16) (b : Bay) : (bayTick samples b s).pending = s.pending := by
  simp only [bayTick]
  repeat' split
  all_goals simp

@[simp] theorem lineSampleTick_pending (samples : Vector LineSample 16) (order : List Bay) :
    (lineSampleTick samples order s).pending = s.pending :=
  forBays_pending (fun b t => bayTick_pending t samples b) _ _

end

/-! ## Every row -/

/-- Log 6: every row but the three of the resets is work that waits behind the gate of a reset in progress; and that
work leaves the queue alone. -/
theorem exec_gated {c : Instr} (power : c ≠ .powerOnReset) (pin : c ≠ .pinReset) (ended : c ≠ .resetEnd) :
    ∃ work : State → State, (∀ s, exec c s = whenRunning s work) ∧ ∀ s, (work s).pending = s.pending := by
  cases hr : requestOf c with
  | some r => exact ⟨_, exec_of_requestOf hr, fun s => hostRequest_pending s r⟩
  | none =>
    cases c with
    | powerOnReset => exact absurd rfl power
    | pinReset => exact absurd rfl pin
    | resetEnd => exact absurd rfl ended
    | curveWrite c k n pts =>
      refine ⟨_, fun _ => rfl, fun s => ?_⟩
      split
      · exact hostRequest_pending s _
      · rfl
    | checkPoint v => exact ⟨_, fun _ => rfl, fun s => pointRow_pending _ .check⟩
    | frameAccepted p c => exact ⟨_, fun _ => rfl, fun s => frameArrives_pending s p c⟩
    | answerSent => exact ⟨_, fun _ => rfl, answerSent_pending⟩
    | commandReset => exact ⟨_, fun _ => rfl, commandReset_pending⟩
    | roundStart order => exact ⟨_, fun _ => rfl, fun s => roundStartRow_pending s order⟩
    | channelCountdownExpiry b k => exact ⟨_, fun _ => rfl, fun s => channelCountdownExpiry_pending s b k⟩
    | intervalExpiry b => exact ⟨_, fun _ => rfl, fun s => intervalExpiryAt_pending s b⟩
    | expiryInWaiting b => exact ⟨_, fun _ => rfl, fun s => expiryInWaitingAt_pending s b⟩
    | endByMaximum b => exact ⟨_, fun _ => rfl, fun s => endByMaximumAt_pending s b⟩
    | dripEnd b => exact ⟨_, fun _ => rfl, fun s => dripEndAt_pending s b⟩
    | grantPoint => exact ⟨_, fun _ => rfl, fun s => pointRow_pending s .grant⟩
    | sweepStart => exact ⟨_, fun _ => rfl, fun s => pointRow_pending s .sweep⟩
    | referenceEnd rate => exact ⟨_, fun _ => rfl, fun s => referenceEnd_pending s rate⟩
    | sensorEnd x => exact ⟨_, fun _ => rfl, fun s => sensorEnd_pending s x⟩
    | presenceSeen => exact ⟨_, fun _ => rfl, presenceSeen_pending⟩
    | presenceWindowClose => exact ⟨_, fun _ => rfl, presenceWindowClose_pending⟩
    | attemptJudged => exact ⟨_, fun _ => rfl, attemptJudged_pending⟩
    | connect b => exact ⟨_, fun _ => rfl, fun s => senseAcceptance_pending s b true⟩
    | disconnect b => exact ⟨_, fun _ => rfl, fun s => senseAcceptance_pending s b false⟩
    | doorAcceptance b v => exact ⟨_, fun _ => rfl, fun s => doorAcceptance_pending s b v⟩
    | runAcceptance b v => exact ⟨_, fun _ => rfl, fun s => runAcceptance_pending s b v⟩
    | overcurrentAcceptance b v => exact ⟨_, fun _ => rfl, fun s => overcurrentAcceptance_pending s b v⟩
    | powerGoodWaitEnd b => exact ⟨_, fun _ => rfl, fun s => powerGoodWaitEnd_pending s b⟩
    | lineSampleTick x order => exact ⟨_, fun _ => rfl, fun s => lineSampleTick_pending s x order⟩
    | bitSlotSample v => exact ⟨_, fun _ => rfl, fun s => bitSlotSample_pending s v⟩
    | byteReceived v => exact ⟨_, fun _ => rfl, fun s => receiveByte_pending s v⟩
    | frameAbandoned | frameGapTimeout | selectEnd | wakeEnd | spacingEnd => exact ⟨_, fun _ => rfl, fun _ => rfl⟩
    | _ => simp [requestOf] at hr

/-- Work behind the gate is done or not, and in neither case touches the queue. -/
theorem whenRunning_pending {work : State → State} {s : State} (h : (work s).pending = s.pending) :
    ∃ t, whenRunning s work = .next t ∧ t.pending = s.pending := by
  unfold whenRunning; split
  · exact ⟨_, rfl, h⟩
  · exact ⟨_, rfl, rfl⟩

/-- Settles O3: the three rows of the resets, and the rows behind the gate. -/
theorem everyCommandIsCarriedOut : Obligations.EveryCommandIsCarriedOut := by
  intro c s
  by_cases power : c = .powerOnReset
  · subst power; exact ⟨_, rfl, rfl⟩
  by_cases pin : c = .pinReset
  · subst pin; exact ⟨_, rfl, pinReset_pending s⟩
  by_cases ended : c = .resetEnd
  · subst ended; exact ⟨_, rfl, resetEnd_pending s⟩
  obtain ⟨work, gated, kept⟩ := exec_gated power pin ended
  rw [gated s]
  exact whenRunning_pending (kept s)

end Sys2Proof.Machine

namespace Sys2Proof.Machine

/-! # Commands out of place (O4; logs 5, 6, 23, 26)

A command changes nothing during a reset, and out of one where the work of its row leaves the state as it is. -/

/-- Log 6: during a reset every row but the three of the resets changes nothing. -/
theorem exec_during_reset {c : Instr} {s : State} {cause : ResetCause} (hr : s.resetting = some cause)
    (power : c ≠ .powerOnReset) (pin : c ≠ .pinReset) (ended : c ≠ .resetEnd) : exec c s = .next s := by
  obtain ⟨work, gated, -⟩ := exec_gated power pin ended
  rw [gated s, whenRunning_of_some hr]

/-- Work that leaves a state as it is does so behind the gate, too. -/
theorem whenRunning_of_fixed {work : State → State} {s : State} (h : work s = s) : whenRunning s work = .next s := by
  unfold whenRunning; split
  · rw [h]
  · rfl

/-! ## The tag reader (R58 to R63) -/

section
variable {s : State}

theorem wakeEnd_of_not_wake (h : ∀ n start, s.reader.state ≠ .attempt n start .wake) : wakeEnd s = s := by
  have stays : s.reader.wakeEnd s.timer.timeUs = s.reader := by
    unfold Reader.wakeEnd; split
    next wake => exact absurd wake (h _ _)
    all_goals rfl
  rw [wakeEnd, State.modReader, stays]

theorem presenceSeen_of_not_recognised (h : s.reader.recognises s.timer.timeUs = false) : presenceSeen s = s := by
  rw [presenceSeen, h]; rfl

theorem recognises_of_not_presence {r : Reader} (h : ∀ n start, r.state ≠ .attempt n start .presence) (now : Nat) :
    r.recognises now = false := by
  unfold Reader.recognises; split
  next presence => exact absurd presence (h _ _)
  all_goals rfl

/-- R58: behind the close of the presence window no presence is recognised. -/
theorem recognises_behind_close {r : Reader} {n start now : Nat} (h : r.state = .attempt n start .presence)
    (closed : start + 900 < r.instant now) : r.recognises now = false := by
  rw [Reader.recognises_presence now h]
  exact decide_eq_false (Nat.not_le.2 closed)

theorem presenceWindowClose_of_not_presence (h : ∀ n start, s.reader.state ≠ .attempt n start .presence) :
    presenceWindowClose s = s := by
  unfold presenceWindowClose; split
  next presence => exact absurd presence (h _ _)
  all_goals rfl

/-- R59: out of BITS, or with forty samples taken, no slot has still to be sampled. -/
theorem bitSlotSample_of_not_awaited (h : ∀ n start began slot count shift bytes,
      s.reader.state = .attempt n start (.bits began slot count shift bytes) → 5 ≤ bytes.length) (high : Bool) :
    bitSlotSample high s = s := by
  have none_awaited : s.reader.nextSample = none := by
    unfold Reader.nextSample; split
    next bits => exact if_pos (h _ _ _ _ _ _ _ bits)
    all_goals rfl
  rw [bitSlotSample, none_awaited]

/-- R62: out of BITS, or before five bytes are stored, there is no frame to judge. -/
theorem attemptJudged_of_no_frame (h : ∀ n start began slot count shift bytes,
      s.reader.state = .attempt n start (.bits began slot count shift bytes) → bytes.length < 5) :
    attemptJudged s = s := by
  unfold attemptJudged; split
  next bits => exact if_pos (h _ _ _ _ _ _ _ bits)
  all_goals rfl

theorem spacingEnd_of_not_spacing (h : ∀ n start, s.reader.state ≠ .spacing n start) : spacingEnd s = s := by
  have stays : s.reader.spacingEnd s.timer.timeUs = s.reader := by
    unfold Reader.spacingEnd; split
    next spacing => exact absurd spacing (h _ _)
    all_goals rfl
  rw [spacingEnd, State.modReader, stays]

/-! ## The points of a round (log 26) -/

/-- A point that has come comes again only as the next round's, once and with its stored offset 0. -/
theorem pointRow_of_come {p : Point} (h : s.timer.points.get p = .takenAhead
      ∨ (s.timer.points.get p = .taken ∧ s.timer.stored.pointAt p ≠ 0)) : pointRow p s = s := by
  rcases h with ahead | ⟨taken, later⟩
  · rw [pointRow, ahead]
  · rw [pointRow, taken]; exact if_neg later

/-- Log 4: of a point that has come the row still brings, out of a reset, the level at FSENSE. -/
theorem exec_pointRow_of_come {p : Point} (h : s.timer.points.get p = .takenAhead
      ∨ (s.timer.points.get p = .taken ∧ s.timer.stored.pointAt p ≠ 0)) (fsense : Nat) :
    exec (p.row fsense) s = .next (if s.resetting = none then p.brings fsense s else s) := by
  cases hr : s.resetting with
  | none => rw [exec_pointRow hr, pointRow_of_come (s := p.brings fsense s) h, if_pos rfl]
  | some cause => cases p <;> exact exec_during_reset hr nofun nofun nofun

/-! ## The stages of a conversion (R68 to R70) -/

theorem selectEnd_of_not_select (h : ∀ ch, s.converter.stage ≠ .select ch) :
    s.modConverter Converter.selectEnd = s := by
  have stays : s.converter.selectEnd = s.converter := by
    unfold Converter.selectEnd; split
    next select => exact absurd select (h _)
    all_goals rfl
  rw [State.modConverter, stays]

theorem referenceEnd_of_not_reference (h : ∀ ch tb cy, s.converter.stage ≠ .reference ch tb cy) (rate : Nat) :
    referenceEnd rate s = s := by
  unfold referenceEnd; split
  next reference => exact absurd reference (h _ _ _)
  all_goals rfl

theorem sensorEnd_of_not_sensor (h : ∀ ch held tb cy, s.converter.stage ≠ .sensor ch held tb cy) (x : ChannelInput) :
    sensorEnd x s = s := by
  unfold sensorEnd; split
  next sensor => exact absurd sensor (h _ _ _ _)
  all_goals rfl

/-! ## The lines of a bay (R37, R144) -/

variable {b : Bay} {v : Bool}

theorem senseAcceptance_of_accepted (h : s.bays[b].connected = v) : senseAcceptance b v s = s := if_pos h

theorem doorAcceptance_of_accepted
    (h : s.bays[b].connected = false ∨ s.doors[b].figures.state = if v then .shut else .opened) :
    doorAcceptance b v s = s := by
  refine if_neg fun ⟨watched, differs⟩ => ?_
  rcases h with unwatched | accepted
  · exact absurd watched (by rw [unwatched]; nofun)
  · exact differs (DoorState.level_eq_some.2 accepted)

theorem runAcceptance_of_accepted
    (h : s.bays[b].connected = false ∨ s.doors[b].run = if v then .running else .stopped) :
    runAcceptance b v s = s := by
  refine if_neg fun ⟨watched, differs⟩ => ?_
  rcases h with unwatched | accepted
  · exact absurd watched (by rw [unwatched]; nofun)
  · exact differs (RunState.level_eq_some.2 accepted)

theorem overcurrentAcceptance_of_accepted
    (h : s.bays[b].connected = false ∨ s.doors[b].ovc = if v then .clear else .tripped) :
    overcurrentAcceptance b v s = s := by
  refine if_neg fun ⟨watched, differs⟩ => ?_
  rcases h with unwatched | accepted
  · exact absurd watched (by rw [unwatched]; nofun)
  · exact differs (Option.some.inj (OvcState.level_eq_some.2 accepted))

theorem powerGoodWaitEnd_of_no_wait (h : s.bays[b].wait = none) : powerGoodWaitEnd b s = s := by
  rw [powerGoodWaitEnd, h]

/-! ## The host link (R171, R174) -/

theorem answerSent_of_idle (h : s.link.transmitter = .idle) : answerSent s = s := by rw [answerSent, h]

theorem commandReset_of_no_answer (h : s.link.transmitter = .idle ∨ s.link.resetArmed = false) :
    commandReset s = s := by
  unfold commandReset; split
  · rfl
  next sending =>
    rcases h with idle | unarmed
    · rw [idle] at sending; cases sending
    · rw [unarmed]; rfl

/-! ## Rows that are parts of a round start (log 8) -/

theorem channelCountdownExpiry_of_not_last {k : ChannelKind} (h : s.bays[b].state ≠ .serving
      ∨ (s.converter.channel { bay := b, kind := k }).countdown ≠ 1) : channelCountdownExpiry b k s = s :=
  if_neg fun ⟨serving, last⟩ => h.elim (· serving) (· last)

theorem intervalExpiryAt_of_not_idle (h : ∀ r, s.recordAt b = some r → r.defrost.state ≠ .idle) :
    intervalExpiryAt b s = s := by
  unfold intervalExpiryAt; split
  · rfl
  next r rec =>
    split
    next idle => exact absurd idle (h r rec)
    all_goals rfl

theorem expiryInWaitingAt_of_not_waiting (h : ∀ r c, s.recordAt b = some r → r.defrost.state ≠ .waiting c) :
    expiryInWaitingAt b s = s := by
  unfold expiryInWaitingAt; split
  · rfl
  next r rec =>
    split
    next waiting => exact absurd waiting (h r _ rec)
    all_goals rfl

theorem endByMaximumAt_of_not_heating (h : ∀ r g, s.recordAt b = some r → r.defrost.state ≠ .heating g) :
    endByMaximumAt b s = s := by
  unfold endByMaximumAt; split
  · rfl
  next r rec =>
    split
    next heating => exact absurd heating (h r _ rec)
    all_goals rfl

theorem dripEndAt_of_not_dripping (h : ∀ r, s.recordAt b = some r → r.defrost.state ≠ .dripping) :
    dripEndAt b s = s := by
  unfold dripEndAt; split
  · rfl
  next r rec =>
    split
    next dripping => exact absurd dripping (h r rec)
    all_goals rfl

end

/-- Settles O4: the gate of a reset, then row by row the work that is left undone. -/
theorem commandsOutOfPlaceChangeNothing : Obligations.CommandsOutOfPlaceChangeNothing := by
  intro s b n k v
  refine ⟨fun c cause => exec_during_reset,
    fun noWake => whenRunning_of_fixed (wakeEnd_of_not_wake noWake),
    fun noPresence => ⟨whenRunning_of_fixed (presenceSeen_of_not_recognised (recognises_of_not_presence noPresence _)),
      whenRunning_of_fixed (presenceWindowClose_of_not_presence noPresence)⟩,
    fun i start presence closed =>
      whenRunning_of_fixed (presenceSeen_of_not_recognised (recognises_behind_close presence closed)),
    fun notAwaited => whenRunning_of_fixed (bitSlotSample_of_not_awaited notAwaited v),
    fun noFrame => whenRunning_of_fixed (attemptJudged_of_no_frame noFrame),
    fun noSpacing => whenRunning_of_fixed (spacingEnd_of_not_spacing noSpacing),
    fun p come => ?point,
    fun noSelect => whenRunning_of_fixed (selectEnd_of_not_select noSelect),
    fun noReference => whenRunning_of_fixed (referenceEnd_of_not_reference noReference n),
    fun noSensor x => whenRunning_of_fixed (sensorEnd_of_not_sensor noSensor x),
    fun connected => whenRunning_of_fixed (senseAcceptance_of_accepted connected),
    fun unconnected => whenRunning_of_fixed (senseAcceptance_of_accepted unconnected),
    fun accepted => whenRunning_of_fixed (doorAcceptance_of_accepted accepted),
    fun accepted => whenRunning_of_fixed (runAcceptance_of_accepted accepted),
    fun accepted => whenRunning_of_fixed (overcurrentAcceptance_of_accepted accepted),
    fun noWait => whenRunning_of_fixed (powerGoodWaitEnd_of_no_wait noWait),
    fun idle => whenRunning_of_fixed (answerSent_of_idle idle),
    fun noAnswer => whenRunning_of_fixed (commandReset_of_no_answer noAnswer),
    fun notLast => whenRunning_of_fixed (channelCountdownExpiry_of_not_last notLast),
    fun notIdle => whenRunning_of_fixed (intervalExpiryAt_of_not_idle notIdle),
    fun notWaiting => whenRunning_of_fixed (expiryInWaitingAt_of_not_waiting notWaiting),
    fun notHeating => whenRunning_of_fixed (endByMaximumAt_of_not_heating notHeating),
    fun notDripping => whenRunning_of_fixed (dripEndAt_of_not_dripping notDripping)⟩
  case point =>
    rw [exec_pointRow_of_come come]
    congr 1
    by_cases running : s.resetting = none
    · rw [if_pos running, if_pos running]; cases p <;> rfl
    · rw [if_neg running, if_neg running]; cases p <;> rfl

end Sys2Proof.Machine
